-- ==== Sys2Proof/Word.lean ====
section
/-! DEFINITION. The two word sizes of the block: bytes (00_scope R8) and 16-bit command words (30_encoding R70). -/

namespace Sys2Proof

/-- A byte: a storage slot, an index register, a received or transmitted byte (R8). -/
abbrev Byte := BitVec 8

/-- A command word `cmd[15:0]` (R70). -/
abbrev Word := BitVec 16

end Sys2Proof
end

