-- ==== Sys2Proof/Config.lean ====
section
/-! DEFINITION. What one instance of the block fixes (the open parameters of 00_scope R6 and R7), the snapshot
structure handed to the presentation sink, and the two free values of the model (93_implementation_defined U1, U2). -/

namespace Sys2Proof

/-- RZ80's status enum, in RZ80's order (30_encoding R78). -/
inductive StatusCode where
  | ok
  | overflow
  | autoMode
  deriving DecidableEq, Repr, Inhabited

/-- `STATUS_ENC`: the display byte of each status code (R78, D11). -/
structure StatusEnc where
  ok       : Byte
  overflow : Byte
  autoMode : Byte
  deriving DecidableEq, Repr, Inhabited

/-- The parameters of one instance. None is fixed by the spec; no operation writes one (R7, R181).
`logN` stands for `log2 N - 1`, so that every value is a legal size: a power of two from 2 to 256 (R6). -/
structure Params where
  logN      : Fin 8
  start     : Byte
  last0     : Byte
  statusEnc : StatusEnc
  deriving DecidableEq, Repr, Inhabited

/-- `N`, the number of storage slots (R6). -/
def Params.slots (p : Params) : Nat := 2 ^ (p.logN.val + 1)

/-- `MASK = N - 1`, as the byte the indices are reduced with (R6, R9). -/
def Params.mask (p : Params) : Byte := BitVec.ofNat 8 (p.slots - 1)

/-- The snapshot struct of 10_state R39: occupancy (8 bits, D12), status code, last byte. -/
structure Snapshot where
  occupancy : Byte
  status    : StatusCode
  lastByte  : Byte
  deriving DecidableEq, Repr, Inhabited

/-- Free value (U1): what a slot no push has written since reset number `r` holds at index `i`. Nothing is known of it. -/
opaque Config.slotAtReset (r : Nat) (i : Nat) : Byte

/-- Free value (U2, D23): what the presentation sink shows after reset number `r`, before the first presentation.
Nothing is known of it. -/
opaque Config.snapAtReset (r : Nat) : Snapshot

end Sys2Proof
end

