-- ==== Sys2Proof/Syntax.lean ====
section
/-! DEFINITION. The nineteen operations of AFIFO-OPS version 1 (30_encoding R73), their operands, and the agent whose
step each one is (00_scope R12, 60_exceptions R165). -/

namespace Sys2Proof

/-- The four interrupt causes (30_encoding R77): byte received, transmit ready, line status changed, receive error. -/
inductive Cause where
  | br
  | tr
  | ls
  | re
  deriving DecidableEq, Repr

/-- The two key events (30_encoding R71, 43_mode_controller R121). -/
inductive Key where
  | toggle
  | trigger
  deriving DecidableEq, Repr

/-- One constructor per row of spec/opcode_table.json. -/
inductive Instr where
  | push (d : Byte)
  | pop
  | empty
  | full
  | occ
  | irq (c : Cause)
  | rxi (d : Byte)
  | lsi
  | rei
  | txi
  | drain
  | key (k : Key)
  | toggle
  | clrovf
  | present
  | di
  | ei
  | fgstep
  | reset
  deriving DecidableEq, Repr

/-- Who takes a step (R12); `platform` applies reset (R145, R165). -/
inductive Agent where
  | fg
  | int
  | dev
  | keys
  | platform
  deriving DecidableEq, Repr

/-- The agent whose step an operation is (R12, R165). -/
def Instr.agent : Instr → Agent
  | .push _ => .fg
  | .pop => .fg
  | .empty => .fg
  | .full => .fg
  | .occ => .fg
  | .irq _ => .dev
  | .rxi _ => .int
  | .lsi => .int
  | .rei => .int
  | .txi => .int
  | .drain => .fg
  | .key _ => .keys
  | .toggle => .fg
  | .clrovf => .fg
  | .present => .fg
  | .di => .fg
  | .ei => .fg
  | .fgstep => .fg
  | .reset => .platform

end Sys2Proof
end

