-- ==== Sys2Proof/WellFormed.lean ====
section
/-! DEFINITION. What counts as well formed: the parameters of an instance (00_scope R6, R7), and a command word held
against the rows of the opcode table (30_encoding R71, R73, R74). An `Instr` carries typed operands (a byte, a cause, a
key), so every term of it is well formed; what can be ill formed is the word. -/

namespace Sys2Proof

/-- A row of spec/opcode_table.json: the word's bits under `mask` must equal `pattern` (R71). -/
structure Row where
  mnemonic : String
  pattern  : Word
  mask     : Word
  deriving DecidableEq, Repr

def Row.accepts (r : Row) (w : Word) : Bool := w &&& r.mask == r.pattern

/-- The RingBuffer, receive and consumer rows of R73. -/
def bufferRows : List Row :=
  [⟨"PUSH", 0x1000, 0xFF00⟩, ⟨"POP", 0x1100, 0xFFFF⟩, ⟨"EMPTY", 0x1200, 0xFFFF⟩, ⟨"FULL", 0x1300, 0xFFFF⟩,
   ⟨"OCC", 0x1400, 0xFFFF⟩, ⟨"IRQ", 0x2000, 0xFFFC⟩, ⟨"RXI", 0x2100, 0xFF00⟩, ⟨"LSI", 0x2200, 0xFFFF⟩,
   ⟨"REI", 0x2300, 0xFFFF⟩, ⟨"TXI", 0x3000, 0xFFFF⟩, ⟨"DRAIN", 0x3100, 0xFFFF⟩]

/-- The mode, presenter and control rows of R73. -/
def controlRows : List Row :=
  [⟨"KEY", 0x4000, 0xFFFE⟩, ⟨"TOGGLE", 0x4100, 0xFFFF⟩, ⟨"CLROVF", 0x4200, 0xFFFF⟩, ⟨"PRESENT", 0x5000, 0xFFFF⟩,
   ⟨"DI", 0x6000, 0xFFFF⟩, ⟨"EI", 0x6100, 0xFFFF⟩, ⟨"FGSTEP", 0x6200, 0xFFFF⟩, ⟨"RESET", 0x6300, 0xFFFF⟩]

/-- The opcode table, nineteen rows in the order of R73. -/
def opcodeTable : List Row := bufferRows ++ controlRows

/-- A legal command word: some row accepts it. Every other word is ILLEGAL (R74). -/
def Command.wf (w : Word) : Bool := opcodeTable.any (·.accepts w)

/-- The table's own name of an operation. -/
def Instr.mnemonic : Instr → String
  | .push _ => "PUSH"
  | .pop => "POP"
  | .empty => "EMPTY"
  | .full => "FULL"
  | .occ => "OCC"
  | .irq _ => "IRQ"
  | .rxi _ => "RXI"
  | .lsi => "LSI"
  | .rei => "REI"
  | .txi => "TXI"
  | .drain => "DRAIN"
  | .key _ => "KEY"
  | .toggle => "TOGGLE"
  | .clrovf => "CLROVF"
  | .present => "PRESENT"
  | .di => "DI"
  | .ei => "EI"
  | .fgstep => "FGSTEP"
  | .reset => "RESET"

/-- The three display bytes are pairwise distinct (D11). -/
def StatusEnc.wf (e : StatusEnc) : Bool :=
  e.ok != e.overflow && e.ok != e.autoMode && e.overflow != e.autoMode

/-- An instance the spec allows: START is a slot index (R7, D3), the display bytes are distinct (D11).
The bounds on N are in the type (`Params.logN`). -/
def Params.wf (p : Params) : Bool :=
  decide (p.start.toNat < p.slots) && p.statusEnc.wf

end Sys2Proof
end

