-- ==== Sys2Proof/Decode.lean ====
section
/-! DEFINITION. The decoder of 30_encoding R82, total on every word and refusing by name, and after it the encoder
written from the same rules R70 to R73. -/

namespace Sys2Proof

/-- Why a word is ILLEGAL (R74): no such opcode, or an operand bit that must be zero is set. -/
inductive Illegal where
  | unknownOpcode
  | operandNotZero
  deriving DecidableEq, Repr

/-- `opc = cmd[15:8]` (R70). -/
def opcodeOf (w : Word) : Byte := w.extractLsb' 8 8

/-- `d = cmd[7:0]` (R70). -/
def operandOf (w : Word) : Byte := w.extractLsb' 0 8

/-- `{opc, d}`, the opcode in the high byte (R70, R9). -/
def wordOf (opc d : Byte) : Word := opc ++ d

/-- The cause a two-bit code stands for (R77). -/
def causeOfCode (c : BitVec 2) : Cause :=
  match c.toNat with
  | 0 => .br
  | 1 => .tr
  | 2 => .ls
  | _ => .re

/-- The code of a cause (R77). -/
def Cause.code : Cause → BitVec 2
  | .br => 0
  | .tr => 1
  | .ls => 2
  | .re => 3

/-- The key a one-bit id stands for: 0 toggle, 1 trigger (R71). -/
def keyOfId (k : BitVec 1) : Key := if k = 0 then .toggle else .trigger

/-- The id of a key (R71). -/
def Key.id : Key → BitVec 1
  | .toggle => 0
  | .trigger => 1

/-- Format Z: `d` must be zero (R71). -/
def formatZ (d : Byte) (i : Instr) : Except Illegal Instr :=
  if d = 0 then .ok i else .error .operandNotZero

/-- Format B: `d` is any byte, used as is (R71, R72). -/
def formatB (d : Byte) (f : Byte → Instr) : Except Illegal Instr := .ok (f d)

/-- Format C: `d[7:2]` must be zero, the cause is `d[1:0]` (R71, R72). -/
def formatC (d : Byte) (f : Cause → Instr) : Except Illegal Instr :=
  if d.extractLsb' 2 6 = 0 then .ok (f (causeOfCode (d.extractLsb' 0 2))) else .error .operandNotZero

/-- Format K: `d[7:1]` must be zero, the key is `d[0]` (R71, R72). -/
def formatK (d : Byte) (f : Key → Instr) : Except Illegal Instr :=
  if d.extractLsb' 1 7 = 0 then .ok (f (keyOfId (d.extractLsb' 0 1))) else .error .operandNotZero

/-- The decoding of R82: look the opcode up in R73, then check the must-be-zero bits of its format. -/
def decode (w : Word) : Except Illegal Instr :=
  match (opcodeOf w).toNat with
  | 0x10 => formatB (operandOf w) .push
  | 0x11 => formatZ (operandOf w) .pop
  | 0x12 => formatZ (operandOf w) .empty
  | 0x13 => formatZ (operandOf w) .full
  | 0x14 => formatZ (operandOf w) .occ
  | 0x20 => formatC (operandOf w) .irq
  | 0x21 => formatB (operandOf w) .rxi
  | 0x22 => formatZ (operandOf w) .lsi
  | 0x23 => formatZ (operandOf w) .rei
  | 0x30 => formatZ (operandOf w) .txi
  | 0x31 => formatZ (operandOf w) .drain
  | 0x40 => formatK (operandOf w) .key
  | 0x41 => formatZ (operandOf w) .toggle
  | 0x42 => formatZ (operandOf w) .clrovf
  | 0x50 => formatZ (operandOf w) .present
  | 0x60 => formatZ (operandOf w) .di
  | 0x61 => formatZ (operandOf w) .ei
  | 0x62 => formatZ (operandOf w) .fgstep
  | 0x63 => formatZ (operandOf w) .reset
  | _ => .error .unknownOpcode

/-- A command word stored in two bytes has its opcode byte first (20_memory R51, D30). A shorter list holds no command
(R70: one length, always). -/
def decodeBytes : List Byte → Option (Instr × List Byte)
  | opc :: d :: rest => (decode (wordOf opc d)).toOption.map (·, rest)
  | _ => none

/-- The command word that the low `nbits` bits of `w` give, as spec/opcode_table.json numbers bits; bits above are zero. -/
def tableWord (nbits w : Nat) : Word := BitVec.ofNat 16 (w % 2 ^ nbits)

/-- The host's question: the instruction the decoder reads from a table word, laid out in bytes as D30 says. -/
def decodeTableWord (nbits w : Nat) : Option Instr :=
  (decodeBytes [opcodeOf (tableWord nbits w), operandOf (tableWord nbits w)]).map (·.1)

/-- The opcode of an operation (R73). -/
def Instr.opcode : Instr → Byte
  | .push _ => 0x10
  | .pop => 0x11
  | .empty => 0x12
  | .full => 0x13
  | .occ => 0x14
  | .irq _ => 0x20
  | .rxi _ => 0x21
  | .lsi => 0x22
  | .rei => 0x23
  | .txi => 0x30
  | .drain => 0x31
  | .key _ => 0x40
  | .toggle => 0x41
  | .clrovf => 0x42
  | .present => 0x50
  | .di => 0x60
  | .ei => 0x61
  | .fgstep => 0x62
  | .reset => 0x63

/-- The operand byte of an operation (R71, R72): zero in format Z. -/
def Instr.operand : Instr → Byte
  | .push d => d
  | .rxi d => d
  | .irq c => c.code.setWidth 8
  | .key k => k.id.setWidth 8
  | .pop => 0
  | .empty => 0
  | .full => 0
  | .occ => 0
  | .lsi => 0
  | .rei => 0
  | .txi => 0
  | .drain => 0
  | .toggle => 0
  | .clrovf => 0
  | .present => 0
  | .di => 0
  | .ei => 0
  | .fgstep => 0
  | .reset => 0

/-- The command word of an operation (R70, R73). -/
def encode (i : Instr) : Word := wordOf i.opcode i.operand

end Sys2Proof
end

