-- ==== Sys2Proof/Machine/Instance.lean ====
section
/-! DEFINITION. The one instance that `State.reset` stands for. The spec fixes no N (91_not_in_source N8) and gives
defaults for the other parameters (00_scope R7); statements never rest on this instance, they hold for every `Params`. -/

namespace Sys2Proof.Machine

/-- DESIGN CHOICE (log 1): N = 32, RZ80's first test size; START 0, LAST0 0x00, STATUS_ENC 0x00, 0xEE, 0xAA are the
defaults of R7 and R78. -/
def instanceParams : Params :=
  { logN := 4, start := 0x00, last0 := 0x00,
    statusEnc := { ok := 0x00, overflow := 0xEE, autoMode := 0xAA } }

end Sys2Proof.Machine
end

