-- ==== Sys2Proof/Machine/State.lean ====
section
/-! DEFINITION. The state of the block (10_state R20), its reset (10_state R43, 70_reset R180), and the reasons a step
can stop. -/

namespace Sys2Proof.Machine

/-- `storage` as plain data: (index, byte) for each slot a push has written since reset, indices strictly rising
(R21: an unwritten slot holds no value). Its canonical form is `Memory.wf`. -/
abbrev Memory := List Host.Cell

/-- The execution level (R31, R165). -/
inductive Level where
  | fg
  | int
  deriving DecidableEq, Repr

/-- One pending bit per cause (R32). -/
structure Pend where
  br : Bool
  tr : Bool
  ls : Bool
  re : Bool
  deriving DecidableEq, Repr

/-- The phases of the foreground tick (R36). -/
inductive Phase where
  | input
  | snap
  | pop
  | send
  | present
  deriving DecidableEq, Repr

/-- Result codes (30_encoding R76). `refused` is the spec's REFUSED: a result, not a stop of the model. -/
inductive Code where
  | ok
  | full
  | empty
  | refused
  | illegal
  deriving DecidableEq, Repr

/-- The result word `(code, data)` (R41, R76). -/
structure Result where
  code : Code
  data : Byte
  deriving DecidableEq, Repr

/-- A device call made by the core, as recorded in `dev_trace` (R40). -/
inductive DevCall where
  | rx (d : Byte)
  | tx (b : Byte)
  | disarm
  | ackLS
  | ackRE
  deriving DecidableEq, Repr

/-- The state. The first nineteen fields are the spec's (R20 to R41), under the spec's names. The last three are the
model's own: the instance's parameters (log 1), the number of RESET commands so far (log 5), and the command words the
agents have yet to present (log 2). -/
structure State where
  storage          : Memory
  head             : Byte
  tail             : Byte
  overflowFlag     : Bool
  autoModeFlag     : Bool
  lastReceivedByte : Byte
  ie               : Bool
  level            : Level
  pend             : Pend
  txIrqArmed       : Bool
  toggleEvt        : Bool
  triggerEvt       : Bool
  fgPhase          : Phase
  modeSnap         : Bool
  trigSnap         : Bool
  popped           : Option Byte
  snap             : Snapshot
  res              : Result
  devTrace         : List DevCall
  params           : Params
  resets           : Nat
  schedule         : List Word
  deriving DecidableEq, Repr

/-- The reset state of the instance `p` (R43, R180), for reset number `r`: `storage` and `snap` are unspecified, that
is, no slot written and a free snapshot. -/
def State.resetWith (p : Params) (r : Nat) : State :=
  { storage := [], head := p.start, tail := p.start,
    overflowFlag := false, autoModeFlag := false, lastReceivedByte := p.last0,
    ie := false, level := .fg, pend := ⟨false, false, false, false⟩, txIrqArmed := false,
    toggleEvt := false, triggerEvt := false,
    fgPhase := .input, modeSnap := false, trigSnap := false, popped := none,
    snap := Config.snapAtReset r, res := ⟨.ok, 0x00⟩, devTrace := [],
    params := p, resets := r, schedule := [] }

/-- The machine right after reset, for the instance of log 1, with no command presented yet. -/
def State.reset : State := State.resetWith instanceParams 0

/-- Why the machine stops. The spec has no fatal condition (60_exceptions R154); both reasons stand for states that no
run reaches, in which the spec gives the operation no effect (`Obligations.NoStopUnderInvariant`). -/
inductive Fault where
  /-- Raised by the storage access of a push or pop whose index is above MASK: an address the spec says does not exist
  (20_memory R50). Safe (log 6). -/
  | slotOutsideStorage
  /-- Raised by FGSTEP in phase P_SEND when `popped` is none: the precondition of 45_foreground R142 fails. Safe (log 7). -/
  | sendWithoutByte
  deriving DecidableEq, Repr

/-- Why an operation has no meaning in the model. -/
inductive Refusal where
  /-- Raised by an arm of `exec` whose operation has no meaning yet; no arm raises it now. Safe. -/
  | notModelled (mnemonic : String)
  deriving DecidableEq, Repr

end Sys2Proof.Machine
end

