-- ==== Sys2Proof/Machine/Flags.lean ====
section
/-! DEFINITION. The flag and code computations: result, status and phase numbers (30_encoding R76, R78, R83), the
presenter's composition of the two flags (44_status_presenter R131), the pending bits (10_state R32), and the packed
words of R76 and R79. -/

namespace Sys2Proof.Machine

/-- A Boolean as result data: 0x01 or 0x00 (R76). -/
def boolByte (b : Bool) : Byte := if b then 0x01 else 0x00

/-- The number of a result code (R76). -/
def Code.num : Code → BitVec 4
  | .ok => 0
  | .full => 1
  | .empty => 2
  | .refused => 3
  | .illegal => 4

/-- `res[11:0]`, the code in bits 11..8 and the data in bits 7..0 (R76). -/
def Result.word (r : Result) : BitVec 12 := r.code.num ++ r.data

/-- The number of a phase, the data of FGSTEP's result (R83). -/
def Phase.num : Phase → Byte
  | .input => 0
  | .snap => 1
  | .pop => 2
  | .send => 3
  | .present => 4

/-- The enum number of a status code (R78). -/
def statusNum : StatusCode → BitVec 2
  | .ok => 0
  | .overflow => 1
  | .autoMode => 2

/-- The display byte of a status code (R78). -/
def displayByte (e : StatusEnc) : StatusCode → Byte
  | .ok => e.ok
  | .overflow => e.overflow
  | .autoMode => e.autoMode

/-- `snap[17:0]`: occupancy in bits 17..10, status number in bits 9..8, last byte in bits 7..0 (R79). -/
def snapWord (n : Snapshot) : BitVec 18 := n.occupancy ++ statusNum n.status ++ n.lastByte

/-- The status code shown: Overflow wins, then AutoMode, then Ok (R131). -/
def statusOf (overflow auto : Bool) : StatusCode :=
  if overflow then .overflow else if auto then .autoMode else .ok

/-- `pend[c]` (R32). -/
def Pend.get (p : Pend) : Cause → Bool
  | .br => p.br
  | .tr => p.tr
  | .ls => p.ls
  | .re => p.re

/-- `pend[c] <- v` (R32). -/
def Pend.set (p : Pend) (v : Bool) : Cause → Pend
  | .br => { p with br := v }
  | .tr => { p with tr := v }
  | .ls => { p with ls := v }
  | .re => { p with re := v }

end Sys2Proof.Machine
end

