-- ==== Sys2Proof/Machine/Operands.lean ====
section
/-! DEFINITION. The operands of the block: the two index registers and the slot each one names. Index arithmetic
(10_state R24, R25, 40_ringbuffer R96), and the one-byte accesses to `storage` (00_scope R10, 20_memory R50 to R53). -/

namespace Sys2Proof.Machine

/-- `adv(i) = (i + 1) & MASK` (R24, R96). -/
def adv (p : Params) (i : Byte) : Byte := (i + 1) &&& p.mask

/-- `is_empty()` (R25, R92). -/
def isEmpty (s : State) : Bool := s.head == s.tail

/-- `is_full()`, RZ80's `would_be_full` (R25, R93). -/
def isFull (s : State) : Bool := adv s.params s.head == s.tail

/-- `occupancy() = (head - tail) & MASK` (R25, R94). -/
def occupancy (s : State) : Byte := (s.head - s.tail) &&& s.params.mask

/-- What the list records at index `a`; none where no push has written since reset. -/
def Memory.read (a : Nat) : Memory → Option Byte
  | [] => none
  | (k, v) :: m => if k = a then some v else Memory.read a m

/-- Record byte `b` at index `a`, keeping the indices strictly rising. -/
def Memory.write (a : Nat) (b : Byte) : Memory → Memory
  | [] => [(a, b)]
  | (k, v) :: m =>
    if a < k then (a, b) :: (k, v) :: m
    else if a = k then (a, b) :: m
    else (k, v) :: Memory.write a b m

/-- The canonical form for `n` slots: indices strictly rising, all below `n`. An unlisted index holds no value, so no
entry can equal what an unlisted index reads as. -/
def Memory.wf (n : Nat) : Memory → Bool
  | [] => true
  | (k, _) :: m => decide (k < n) && m.all (fun c => decide (k < c.1)) && Memory.wf n m

/-- The byte in slot `i`: what was written there, or the free value of a slot not written since reset (U1, log 4). -/
def slotByte (s : State) (i : Byte) : Byte :=
  (Memory.read i.toNat s.storage).getD (Config.slotAtReset s.resets i.toNat)

/-- `MemRead(i, 1)`, given for `0 <= i <= MASK` only (R10, R50). -/
def memRead (s : State) (i : Byte) : Except Fault Byte :=
  if i.toNat < s.params.slots then .ok (slotByte s i) else .error .slotOutsideStorage

/-- `MemWrite(i, 1, b)`, given for `0 <= i <= MASK` only (R10, R50). -/
def memWrite (s : State) (i b : Byte) : Except Fault State :=
  if i.toNat < s.params.slots then .ok { s with storage := Memory.write i.toNat b s.storage }
  else .error .slotOutsideStorage

end Sys2Proof.Machine
end

