-- ==== Sys2Proof/Machine/Ops.lean ====
section
/-! DEFINITION. The operations the instructions are built from: the result word, refusal, the two RingBuffer mutators,
the device calls, interrupt entry and return, the foreground bracket, the mode flip and the presenter. -/

namespace Sys2Proof.Machine

/-- The outcome of a body that can only stop by a fault. -/
def answer : Except Fault State → Host.Outcome State Fault Refusal
  | .ok s => .next s
  | .error f => .fault f

/-- `res <- (code, data)` (R10, R41). -/
def setRes (code : Code) (data : Byte) (s : State) : State := { s with res := ⟨code, data⟩ }

/-- The enabling condition does not hold: `res <- (REFUSED, 0x00)`, nothing else changes (R82, 60_exceptions R155). -/
def refuse (s : State) : State := setRes .refused 0x00 s

/-- An illegal command: `res <- (ILLEGAL, 0x00)`, nothing else changes (30_encoding R74). -/
def illegal (s : State) : State := setRes .illegal 0x00 s

/-- No command is presented: no agent steps, the state is as it was (log 3). -/
def idle (s : State) : State := s

/-! ## The RingBuffer mutators -/

/-- The index half of a successful push: `head <- (head + 1) & MASK` (R90). -/
def advanceHead (s : State) : State := { s with head := adv s.params s.head }

/-- The index half of a successful pop: `tail <- (tail + 1) & MASK` (R91). -/
def advanceTail (s : State) : State := { s with tail := adv s.params s.tail }

/-- `try_push(b)` (R90): false and no change when full; else write the slot first, then advance `head` (R55). -/
def tryPush (b : Byte) (s : State) : Except Fault (Bool × State) :=
  if isFull s then .ok (false, s)
  else
    match memWrite s s.head b with
    | .ok t => .ok (true, advanceHead t)
    | .error f => .error f

/-- `try_pop()` (R91): none and no change when empty; else read the slot first, then advance `tail` (R56). -/
def tryPop (s : State) : Except Fault (Option Byte × State) :=
  if isEmpty s then .ok (none, s)
  else
    match memRead s s.tail with
    | .ok b => .ok (some b, advanceTail s)
    | .error f => .error f

/-! ## The device calls (60_exceptions R167); each is recorded in `dev_trace` (R40) -/

/-- `pend[c] <- v` (R32). -/
def setPend (c : Cause) (v : Bool) (s : State) : State := { s with pend := s.pend.set v c }

/-- `dev_trace += call`, oldest first (R40). -/
def record (call : DevCall) (s : State) : State := { s with devTrace := s.devTrace ++ [call] }

/-- `receive_byte()`, returning `d`: it clears `pend[BR]` (41_receive_path R104). -/
def receiveByte (d : Byte) (s : State) : State := setPend .br false (record (.rx d) s)

/-- `transmit_byte(b)`: it clears `pend[TR]` and arms the transmit request (42_drain_consumer R113). -/
def transmitByte (b : Byte) (s : State) : State :=
  { setPend .tr false (record (.tx b) s) with txIrqArmed := true }

/-- `disarm_transmit_interrupt()` (42_drain_consumer R114). -/
def disarmTransmit (s : State) : State :=
  { setPend .tr false (record .disarm s) with txIrqArmed := false }

/-- `ack_line_status()` (41_receive_path R102, D44). -/
def ackLineStatus (s : State) : State := setPend .ls false (record .ackLS s)

/-- `ack_receive_error()` (41_receive_path R103, D44). -/
def ackReceiveError (s : State) : State := setPend .re false (record .ackRE s)

/-! ## Interrupt entry and return -/

/-- The handler of cause `c` may run: `ie == 1` and `pend[c] == 1` (60_exceptions R158). -/
def deliverable (c : Cause) (s : State) : Bool := s.ie && s.pend.get c

/-- Interrupt entry: delivery off, level INT, nothing saved (60_exceptions R160, D43). -/
def enterHandler (s : State) : State := { s with ie := false, level := .int }

/-- The epilogue: delivery on, level FG, the foreground goes on where it was (60_exceptions R162). -/
def leaveHandler (s : State) : State := { s with ie := true, level := .fg }

/-- Taking cause `c`: refused when not deliverable, else entry, the handler's body, the epilogue, in one step
(R13, R158, R160 to R162). -/
def takeInterrupt (c : Cause) (body : State → Except Fault State) (s : State) : Host.Outcome State Fault Refusal :=
  if deliverable c s then answer ((body (enterHandler s)).map leaveHandler) else .next (refuse s)

/-! ## The foreground bracket (45_foreground R137) -/

/-- `ie <- 0`. -/
def disableDelivery (s : State) : State := { s with ie := false }

/-- `ie <- 1`, unconditional: no previous value is restored (R137, D32). -/
def enableDelivery (s : State) : State := { s with ie := true }

/-- The bracketed pop of the foreground: `ie <- 0; r <- try_pop(); ie <- 1` (R112, R141). -/
def bracketedPop (s : State) : Except Fault (Option Byte × State) :=
  (tryPop (disableDelivery s)).map fun (r, t) => (r, enableDelivery t)

/-! ## Mode and presentation -/

/-- The ModeController's transition: flip `auto_mode_flag` and nothing else (43_mode_controller R122). -/
def flipMode (s : State) : State := { s with autoModeFlag := !s.autoModeFlag }

/-- What the presenter shows of a state (44_status_presenter R130). -/
def snapshotOf (s : State) : Snapshot :=
  { occupancy := occupancy s, status := statusOf s.overflowFlag s.autoModeFlag, lastByte := s.lastReceivedByte }

/-- `snap <- ...`, everything read in this one step (R130, D29). -/
def present (s : State) : State := { s with snap := snapshotOf s }

end Sys2Proof.Machine
end

