-- ==== Sys2Proof/Machine/Control.lean ====
section
/-! DEFINITION. DI, EI, FGSTEP with its five phases, RESET (45_foreground R135 to R145). -/

namespace Sys2Proof.Machine

/-- DI (R135). -/
def execDi (s : State) : Host.Outcome State Fault Refusal := .next (setRes .ok 0x00 (disableDelivery s))

/-- EI (R136). -/
def execEi (s : State) : Host.Outcome State Fault Refusal := .next (setRes .ok 0x00 (enableDelivery s))

/-- Phase P_INPUT (R139): consume a pending toggle event. -/
def phaseInput (s : State) : State :=
  { (if s.toggleEvt then flipMode { s with toggleEvt := false } else s) with fgPhase := .snap }

/-- Phase P_SNAP (R140): the tick's one read of the mode, and of the trigger, which it consumes. -/
def phaseSnap (s : State) : State :=
  { s with
    modeSnap := s.autoModeFlag, trigSnap := s.triggerEvt, triggerEvt := false,
    fgPhase := if s.autoModeFlag || s.triggerEvt then .pop else .present }

/-- Phase P_POP (R141): the bracketed pop. -/
def phasePop (s : State) : Except Fault State :=
  (bracketedPop s).map fun (r, t) =>
    { t with popped := r, fgPhase := if r.isSome then .send else .present }

/-- Phase P_SEND (R142): the device write, outside the bracket. Its precondition is `popped == some(b)`. -/
def phaseSend (s : State) : Except Fault State :=
  match s.popped with
  | some b => .ok { transmitByte b s with popped := none, fgPhase := .present }
  | none => .error .sendWithoutByte

/-- Phase P_PRESENT (R143): refresh the snapshot. -/
def phasePresent (s : State) : State := { present s with fgPhase := .input }

/-- The phase that `fg_phase` names (R138). -/
def runPhase (s : State) : Except Fault State :=
  match s.fgPhase with
  | .input => .ok (phaseInput s)
  | .snap => .ok (phaseSnap s)
  | .pop => phasePop s
  | .send => phaseSend s
  | .present => .ok (phasePresent s)

/-- FGSTEP (R138): the data is the new phase number. -/
def execFgstep (s : State) : Host.Outcome State Fault Refusal :=
  answer ((runPhase s).map fun t => setRes .ok t.fgPhase.num t)

/-- RESET (R145): every state element of the block takes its reset value; what is unspecified is free again (log 5);
the instance and the commands still to come are not the block's state (log 1, log 2). -/
def execReset (s : State) : Host.Outcome State Fault Refusal :=
  .next (setRes .ok 0x00 { State.resetWith s.params (s.resets + 1) with schedule := s.schedule })

end Sys2Proof.Machine
end

