-- ==== Sys2Proof/Machine/DrainConsumer.lean ====
section
/-! DEFINITION. TXI and DRAIN, the DrainConsumer in its two contexts (42_drain_consumer R110 to R112). -/

namespace Sys2Proof.Machine

/-- The DrainConsumer's body in interrupt context (R111): transmit what was popped, or disarm. -/
def txiBody (s : State) : Except Fault State :=
  (tryPop s).map fun (r, t) =>
    match r with
    | some b => setRes .ok b (transmitByte b t)
    | none => setRes .empty 0x00 (disarmTransmit t)

/-- TXI, the handler of `transmit_ready` (R111). -/
def execTxi (s : State) : Host.Outcome State Fault Refusal := takeInterrupt .tr txiBody s

/-- DRAIN, the DrainConsumer in the foreground: a bracketed pop, then the device write (R112). -/
def execDrain (s : State) : Host.Outcome State Fault Refusal :=
  answer ((bracketedPop s).map fun (r, t) =>
    match r with
    | some b => setRes .ok b (transmitByte b t)
    | none => setRes .empty 0x00 t)

end Sys2Proof.Machine
end

