-- ==== Sys2Proof/Machine/ModeController.lean ====
section
/-! DEFINITION. KEY, TOGGLE, CLROVF (43_mode_controller R121 to R123). -/

namespace Sys2Proof.Machine

/-- Latch a key event; a latch already set stays set (R121, D21). -/
def latchKey (k : Key) (s : State) : State :=
  match k with
  | .toggle => { s with toggleEvt := true }
  | .trigger => { s with triggerEvt := true }

/-- KEY k (R121). -/
def execKey (k : Key) (s : State) : Host.Outcome State Fault Refusal := .next (setRes .ok 0x00 (latchKey k s))

/-- TOGGLE (R122): the data is the new mode. -/
def execToggle (s : State) : Host.Outcome State Fault Refusal :=
  .next (setRes .ok (boolByte (flipMode s).autoModeFlag) (flipMode s))

/-- CLROVF (R123): the flag is cleared inside a bracket, which leaves delivery on (R137). -/
def execClrovf (s : State) : Host.Outcome State Fault Refusal :=
  .next (setRes .ok 0x00 (enableDelivery { disableDelivery s with overflowFlag := false }))

end Sys2Proof.Machine
end

