-- ==== Sys2Proof/Machine/ReceivePath.lean ====
section
/-! DEFINITION. IRQ, RXI, LSI, REI (41_receive_path R100 to R103). -/

namespace Sys2Proof.Machine

/-- The device may assert `c`: `transmit_ready` only while armed, the other three at any time (R100). -/
def mayAssert (c : Cause) (s : State) : Bool := c != .tr || s.txIrqArmed

/-- IRQ c (R100). -/
def execIrq (c : Cause) (s : State) : Host.Outcome State Fault Refusal :=
  .next (if mayAssert c s then setRes .ok 0x00 (setPend c true s) else refuse s)

/-- The InterruptProducer's body (R101): receive, note the last byte (R106), try to push, flag an overflow. -/
def rxiBody (d : Byte) (s : State) : Except Fault State :=
  (tryPush d { receiveByte d s with lastReceivedByte := d }).map fun (ok, t) =>
    if ok then setRes .ok 0x00 t else setRes .full 0x00 { t with overflowFlag := true }

/-- RXI d, the handler of `byte_received` (R101). -/
def execRxi (d : Byte) (s : State) : Host.Outcome State Fault Refusal := takeInterrupt .br (rxiBody d) s

/-- The body of the `line_status_changed` handler: acknowledge (R102). -/
def lsiBody (s : State) : Except Fault State := .ok (setRes .ok 0x00 (ackLineStatus s))

/-- LSI, the handler of `line_status_changed` (R102). -/
def execLsi (s : State) : Host.Outcome State Fault Refusal := takeInterrupt .ls lsiBody s

/-- The body of the `receive_error` handler: acknowledge and discard (R103). -/
def reiBody (s : State) : Except Fault State := .ok (setRes .ok 0x00 (ackReceiveError s))

/-- REI, the handler of `receive_error` (R103). -/
def execRei (s : State) : Host.Outcome State Fault Refusal := takeInterrupt .re reiBody s

end Sys2Proof.Machine
end

