-- ==== Sys2Proof/Machine/RingBuffer.lean ====
section
/-! DEFINITION. PUSH, POP, EMPTY, FULL, OCC (40_ringbuffer R90 to R94). They touch `storage`, `head`, `tail`, `res` only. -/

namespace Sys2Proof.Machine

/-- PUSH d (R90). -/
def execPush (d : Byte) (s : State) : Host.Outcome State Fault Refusal :=
  answer ((tryPush d s).map fun (ok, t) => setRes (if ok then .ok else .full) 0x00 t)

/-- POP (R91). -/
def execPop (s : State) : Host.Outcome State Fault Refusal :=
  answer ((tryPop s).map fun (r, t) =>
    match r with
    | some b => setRes .ok b t
    | none => setRes .empty 0x00 t)

/-- EMPTY (R92). -/
def execEmpty (s : State) : Host.Outcome State Fault Refusal := .next (setRes .ok (boolByte (isEmpty s)) s)

/-- FULL (R93). -/
def execFull (s : State) : Host.Outcome State Fault Refusal := .next (setRes .ok (boolByte (isFull s)) s)

/-- OCC (R94). -/
def execOcc (s : State) : Host.Outcome State Fault Refusal := .next (setRes .ok (occupancy s) s)

end Sys2Proof.Machine
end

