-- ==== Sys2Proof/Machine/StatusPresenter.lean ====
section
/-! DEFINITION. PRESENT (44_status_presenter R130). -/

namespace Sys2Proof.Machine

/-- PRESENT (R130): the data is the display byte of the status code shown. -/
def execPresent (s : State) : Host.Outcome State Fault Refusal :=
  .next (setRes .ok (displayByte s.params.statusEnc (snapshotOf s).status) (present s))

end Sys2Proof.Machine
end

