-- ==== Sys2Proof/Machine/Dispatch.lean ====
section
/-! DEFINITION. One arm per operation of the opcode table (30_encoding R73). -/

namespace Sys2Proof.Machine

def exec (i : Instr) (s : State) : Host.Outcome State Fault Refusal :=
  match i with
  -- RingBuffer
  | .push d => Sys2Proof.Machine.execPush d s
  | .pop => Sys2Proof.Machine.execPop s
  | .empty => Sys2Proof.Machine.execEmpty s
  | .full => Sys2Proof.Machine.execFull s
  | .occ => Sys2Proof.Machine.execOcc s
  -- receive path
  | .irq c => Sys2Proof.Machine.execIrq c s
  | .rxi d => Sys2Proof.Machine.execRxi d s
  | .lsi => Sys2Proof.Machine.execLsi s
  | .rei => Sys2Proof.Machine.execRei s
  -- DrainConsumer
  | .txi => Sys2Proof.Machine.execTxi s
  | .drain => Sys2Proof.Machine.execDrain s
  -- ModeController
  | .key k => Sys2Proof.Machine.execKey k s
  | .toggle => Sys2Proof.Machine.execToggle s
  | .clrovf => Sys2Proof.Machine.execClrovf s
  -- StatusPresenter
  | .present => Sys2Proof.Machine.execPresent s
  -- control
  | .di => Sys2Proof.Machine.execDi s
  | .ei => Sys2Proof.Machine.execEi s
  | .fgstep => Sys2Proof.Machine.execFgstep s
  | .reset => Sys2Proof.Machine.execReset s

end Sys2Proof.Machine
end

