-- ==== Sys2Proof/Machine/Step.lean ====
section
/-! DEFINITION. One step of the machine: the next command of the schedule, performed (00_scope R13, 30_encoding R82). -/

namespace Sys2Proof.Machine

/-- Decode a command and perform it; an illegal one changes `res` alone (R74, R82). -/
def runCommand (w : Word) (s : State) : Host.Outcome State Fault Refusal :=
  match decode w with
  | .ok i => exec i s
  | .error _ => .next (illegal s)

/-- The next command of the schedule is presented and performed. With none left no agent steps (log 3). -/
def step (s : State) : Host.Outcome State Fault Refusal :=
  match s.schedule with
  | [] => .next (idle s)
  | w :: rest => runCommand w { s with schedule := rest }

/-- The state `s` with one more command word presented, ahead of the rest: the word that `step` performs next. The
block fetches no instructions (20_memory R63); commands come from its agents (log 2). -/
def State.withFetchWord (s : State) (nbits w : Nat) : State :=
  { s with schedule := tableWord nbits w :: s.schedule }

end Sys2Proof.Machine
end

