-- ==== Sys2Proof/Machine/Assembler.lean ====
section
/-! DEFINITION. The assembler syntax (30_encoding R80) and the pseudo-operations (R81). Text is a list of characters, one
command a line; names are written out as characters so that the kernel can evaluate them. -/

namespace Sys2Proof.Machine

/-! ## Operands -/

/-- A hexadecimal digit, in either case (R80; the case is log 18). -/
def hexValue (c : Char) : Option Nat :=
  if 48 ≤ c.toNat ∧ c.toNat ≤ 57 then some (c.toNat - 48)
  else if 65 ≤ c.toNat ∧ c.toNat ≤ 70 then some (c.toNat - 55)
  else if 97 ≤ c.toNat ∧ c.toNat ≤ 102 then some (c.toNat - 87)
  else none

/-- The digit of a number below 16, in upper case (log 18). -/
def hexChar (n : Nat) : Char := if n < 10 then Char.ofNat (48 + n) else Char.ofNat (55 + n)

/-- The byte of two hexadecimal digits. -/
def byteOfDigits (h l : Char) : Option Byte :=
  match hexValue h, hexValue l with
  | some a, some b => some (BitVec.ofNat 8 (16 * a + b))
  | _, _ => none

/-- A byte operand: two hexadecimal digits, with or without `0x` (R80). -/
def byteOperand : List Char → Option Byte
  | [h, l] => byteOfDigits h l
  | ['0', 'x', h, l] => byteOfDigits h l
  | _ => none

/-- A byte as two hexadecimal digits. -/
def byteText (d : Byte) : List Char := [hexChar (d.toNat / 16), hexChar (d.toNat % 16)]

/-- A cause operand: its number or its short name (R80). -/
def causeOperands : List (List Char × Cause) :=
  [(['B', 'R'], .br), (['T', 'R'], .tr), (['L', 'S'], .ls), (['R', 'E'], .re),
   (['0'], .br), (['1'], .tr), (['2'], .ls), (['3'], .re)]

/-- A key operand: its number or its name (R80). -/
def keyOperands : List (List Char × Key) :=
  [(['T', 'O', 'G', 'G', 'L', 'E', 'K', 'E', 'Y'], .toggle),
   (['T', 'R', 'I', 'G', 'G', 'E', 'R', 'K', 'E', 'Y'], .trigger),
   (['0'], .toggle), (['1'], .trigger)]

/-- The short name of a cause (R80). -/
def causeText : Cause → List Char
  | .br => ['B', 'R']
  | .tr => ['T', 'R']
  | .ls => ['L', 'S']
  | .re => ['R', 'E']

/-- The name of a key (R80). -/
def keyText : Key → List Char
  | .toggle => ['T', 'O', 'G', 'G', 'L', 'E', 'K', 'E', 'Y']
  | .trigger => ['T', 'R', 'I', 'G', 'G', 'E', 'R', 'K', 'E', 'Y']

/-! ## Lines -/

/-- The pseudo-operations of R81. -/
inductive Pseudo where
  | rx (d : Byte)
  | txrdy
  | tick
  deriving DecidableEq, Repr

/-- What one line holds: nothing but a comment, a command, or a pseudo-operation. -/
inductive Line where
  | blank
  | command (i : Instr)
  | pseudo (p : Pseudo)
  deriving DecidableEq, Repr

/-- The mnemonic of an operation, in upper case (R80); the same letters as `Instr.mnemonic`. -/
def mnemonicText : Instr → List Char
  | .push _ => ['P', 'U', 'S', 'H']
  | .pop => ['P', 'O', 'P']
  | .empty => ['E', 'M', 'P', 'T', 'Y']
  | .full => ['F', 'U', 'L', 'L']
  | .occ => ['O', 'C', 'C']
  | .irq _ => ['I', 'R', 'Q']
  | .rxi _ => ['R', 'X', 'I']
  | .lsi => ['L', 'S', 'I']
  | .rei => ['R', 'E', 'I']
  | .txi => ['T', 'X', 'I']
  | .drain => ['D', 'R', 'A', 'I', 'N']
  | .key _ => ['K', 'E', 'Y']
  | .toggle => ['T', 'O', 'G', 'G', 'L', 'E']
  | .clrovf => ['C', 'L', 'R', 'O', 'V', 'F']
  | .present => ['P', 'R', 'E', 'S', 'E', 'N', 'T']
  | .di => ['D', 'I']
  | .ei => ['E', 'I']
  | .fgstep => ['F', 'G', 'S', 'T', 'E', 'P']
  | .reset => ['R', 'E', 'S', 'E', 'T']

/-- The operations of format Z (R71), by their mnemonics. -/
def plainOperations : List (List Char × Instr) :=
  [Instr.pop, .empty, .full, .occ, .lsi, .rei, .txi, .drain, .toggle, .clrovf, .present, .di, .ei, .fgstep, .reset].map
    fun i => (mnemonicText i, i)

/-- A line of one word: an operation of format Z, `TXRDY` or `TICK`. -/
def lineOfWord (m : List Char) : Option Line :=
  if m = ['T', 'X', 'R', 'D', 'Y'] then some (.pseudo .txrdy)
  else if m = ['T', 'I', 'C', 'K'] then some (.pseudo .tick)
  else (plainOperations.lookup m).map .command

/-- A line of two words: an operation of format B, C or K and its operand, or `RX d`. -/
def lineOfWords (m o : List Char) : Option Line :=
  if m = ['P', 'U', 'S', 'H'] then (byteOperand o).map fun d => .command (.push d)
  else if m = ['R', 'X', 'I'] then (byteOperand o).map fun d => .command (.rxi d)
  else if m = ['R', 'X'] then (byteOperand o).map fun d => .pseudo (.rx d)
  else if m = ['I', 'R', 'Q'] then (causeOperands.lookup o).map fun c => .command (.irq c)
  else if m = ['K', 'E', 'Y'] then (keyOperands.lookup o).map fun k => .command (.key k)
  else none

/-- A blank between words: a space, or a tab (log 18). -/
def isBlank (c : Char) : Bool := c == ' ' || c == '\t'

/-- The words of a line, split at blanks. -/
def splitWords : List Char → List (List Char)
  | [] => []
  | c :: cs =>
    if isBlank c then splitWords cs
    else
      match cs, splitWords cs with
      | d :: _, w :: ws => if isBlank d then [c] :: w :: ws else (c :: w) :: ws
      | _, ws => [c] :: ws

/-- One line: a comment runs from `;` to the end; what stands before it is nothing, or one command (R80). None for a
line the syntax does not allow. -/
def parseLine (text : List Char) : Option Line :=
  match splitWords (text.takeWhile (· != ';')) with
  | [] => some .blank
  | [m] => lineOfWord m
  | [m, o] => lineOfWords m o
  | _ => none

/-- The text of an operation: the mnemonic, and in formats B, C, K a space and the operand (R80). -/
def lineText (i : Instr) : List Char :=
  match i with
  | .push d => mnemonicText i ++ ' ' :: byteText d
  | .rxi d => mnemonicText i ++ ' ' :: byteText d
  | .irq c => mnemonicText i ++ ' ' :: causeText c
  | .key k => mnemonicText i ++ ' ' :: keyText k
  | .pop => mnemonicText i
  | .empty => mnemonicText i
  | .full => mnemonicText i
  | .occ => mnemonicText i
  | .lsi => mnemonicText i
  | .rei => mnemonicText i
  | .txi => mnemonicText i
  | .drain => mnemonicText i
  | .toggle => mnemonicText i
  | .clrovf => mnemonicText i
  | .present => mnemonicText i
  | .di => mnemonicText i
  | .ei => mnemonicText i
  | .fgstep => mnemonicText i
  | .reset => mnemonicText i

/-! ## Pseudo-operations -/

/-- `RX d`: the device delivers `d` and the interrupt is taken at once (R81). -/
def pseudoRx (d : Byte) : List Instr := [.irq .br, .rxi d]

/-- `TXRDY`: transmit-ready is signalled and taken at once (R81). -/
def pseudoTxrdy : List Instr := [.irq .tr, .txi]

/-- FGSTEP until `fg_phase` is P_INPUT again, at most `n` times (R81). -/
def tickSteps : Nat → State → List Instr
  | 0, _ => []
  | n + 1, s =>
    match exec .fgstep s with
    | .next t => if t.fgPhase = .input then [.fgstep] else .fgstep :: tickSteps n t
    | .fault _ => [.fgstep]
    | .refused _ => [.fgstep]

/-- `TICK` at state `s`: three, four or five FGSTEPs from P_INPUT (R81, 45_foreground R144). -/
def pseudoTick (s : State) : List Instr := tickSteps 5 s

/-- The commands a line stands for when it is reached in state `s`. -/
def Line.commands (s : State) : Line → List Instr
  | .blank => []
  | .command i => [i]
  | .pseudo (.rx d) => pseudoRx d
  | .pseudo .txrdy => pseudoTxrdy
  | .pseudo .tick => pseudoTick s

/-- A fixed sequence of operations with no other step between them. -/
def runInstrs : List Instr → State → Host.Outcome State Fault Refusal
  | [], s => .next s
  | i :: is, s =>
    match exec i s with
    | .next t => runInstrs is t
    | .fault f => .fault f
    | .refused r => .refused r

/-- A program of lines, performed in order with no other step between. -/
def runLines : List Line → State → Host.Outcome State Fault Refusal
  | [], s => .next s
  | l :: ls, s =>
    match runInstrs (l.commands s) s with
    | .next t => runLines ls t
    | .fault f => .fault f
    | .refused r => .refused r

end Sys2Proof.Machine
end

