-- ==== Sys2Proof/Safety.lean ====
section
/-! DEFINITION. The terms in which claims are made: the queue the buffer holds, the invariant of every reachable state
(10_state R44), the history of accepted and released bytes, and runs of several operations. -/

namespace Sys2Proof.Machine

/-- The index of the `k`-th queued byte, `(tail + k) & MASK` (20_memory R54). -/
def liveIndex (s : State) (k : Nat) : Byte := (s.tail + BitVec.ofNat 8 k) &&& s.params.mask

/-- The queued bytes, oldest first: `storage[tail], storage[adv(tail)], ...`, `occupancy()` of them (R44(d)). -/
def queue (s : State) : List Byte :=
  (List.range (occupancy s).toNat).map fun k => slotByte s (liveIndex s k)

/-- The invariant of every reachable state (R44), with the canonical form of `storage`, the level between steps (R31)
and the constraints on the instance (R7). -/
structure State.Inv (s : State) : Prop where
  /-- R44(a), R24. -/
  headInRange : s.head.toNat < s.params.slots
  /-- R44(a), R24. -/
  tailInRange : s.tail.toNat < s.params.slots
  /-- The listed slots are in canonical form and inside `[0, MASK]` (R50, R97(f)). -/
  storageWf : Memory.wf s.params.slots s.storage = true
  /-- R44(c): every queued slot has been written since reset. -/
  liveWritten : ∀ k, k < (occupancy s).toNat → (Memory.read (liveIndex s k).toNat s.storage).isSome = true
  /-- R44(e). -/
  poppedIffSend : s.popped.isSome = true ↔ s.fgPhase = .send
  /-- R44(f). -/
  pendingImpliesArmed : s.pend.tr = true → s.txIrqArmed = true
  /-- R31: the level is FG between any two steps. -/
  levelForeground : s.level = .fg
  /-- R6, R7. -/
  instanceWf : s.params.wf = true

/-- `tx_out`, the transmitted bytes in order (R40). -/
def txOut (s : State) : List Byte :=
  s.devTrace.filterMap fun c =>
    match c with
    | .tx b => some b
    | _ => none

/-- The byte that operation `i`, having led to `t`, put into the buffer: a push with result OK (RZ80 §8, S1). -/
def acceptedBy (i : Instr) (t : State) : List Byte :=
  match i with
  | .push d => if t.res.code = .ok then [d] else []
  | .rxi d => if t.res.code = .ok then [d] else []
  | _ => []

/-- The byte that operation `i`, leading from `s` to `t`, took out of the buffer: a pop with result OK, or the byte
phase P_POP left in `popped` (R91, R111, R112, R141). -/
def releasedBy (i : Instr) (s t : State) : List Byte :=
  match i with
  | .pop => if t.res.code = .ok then [t.res.data] else []
  | .txi => if t.res.code = .ok then [t.res.data] else []
  | .drain => if t.res.code = .ok then [t.res.data] else []
  | .fgstep => if s.fgPhase = .pop then t.popped.toList else []
  | _ => []

/-- The bytes accepted and released since the last reset (R44(d)). -/
structure History where
  accepted : List Byte
  released : List Byte
  deriving DecidableEq, Repr

/-- The history after operation `i` led from `s` to `t`; a reset starts it anew. -/
def History.after (h : History) (i : Instr) (s t : State) : History :=
  match i with
  | .reset => ⟨[], []⟩
  | _ => ⟨h.accepted ++ acceptedBy i t, h.released ++ releasedBy i s t⟩

/-- The history after one step from `s` to `t`: of the operation performed, if there was one. -/
def History.afterStep (h : History) (s t : State) : History :=
  match s.schedule with
  | [] => h
  | w :: _ =>
    match decode w with
    | .ok i => h.after i s t
    | .error _ => h

/-- `n` steps of the machine with the history kept beside it; none if a step stops. -/
def runHistory : Nat → State → History → Option (State × History)
  | 0, s, h => some (s, h)
  | n + 1, s, h =>
    match step s with
    | .next t => runHistory n t (h.afterStep s t)
    | .fault _ => none
    | .refused _ => none

/-- `n` times `TXRDY`. -/
def pseudoBurst (n : Nat) : List Instr := (List.replicate n pseudoTxrdy).flatten

/-- `n` foreground phases in a row; `TICK` is such a sequence from P_INPUT back to P_INPUT (R81). -/
def phases (n : Nat) : List Instr := List.replicate n .fgstep

end Sys2Proof.Machine
end

