-- ==== Sys2Proof/Certificates/Slice0/Obligations.lean ====
section
/-! DEFINITION. The statements for the provers. Each docstring names the rule of spec/ it formalises. Statements about a
state quantify over `State.params` too, so over every N, START, LAST0 and STATUS_ENC. -/

open Sys2Proof Sys2Proof.Machine

/-! ## Encoding -/

/-- R73, R71: words written out from the opcode map decode to the operations they stand for, one of each format and
every family. The bit patterns are the spec's own decisions (D5 to D7). -/
def Obligations.DecodesWordsOfTheOpcodeMap : Prop :=
  decode 0x1044 = .ok (.push 0x44) ∧ decode 0x1400 = .ok .occ ∧
  decode 0x2003 = .ok (.irq .re) ∧ decode 0x21A4 = .ok (.rxi 0xA4) ∧
  decode 0x3000 = .ok .txi ∧ decode 0x4001 = .ok (.key .trigger) ∧
  decode 0x5000 = .ok .present ∧ decode 0x6200 = .ok .fgstep

/-- R70 to R73, R82: decoding an encoded operation gives it back, with every operand, and a word that decodes is the
encoding of what it decodes to, so no two words share a meaning. -/
def Obligations.DecodeEncodeAgree : Prop :=
  (∀ i : Instr, decode (encode i) = .ok i) ∧
  (∀ (w : Word) (i : Instr), decode w = .ok i → encode i = w)

/-- R71, R73, R82: a word decodes exactly when some row of the opcode table accepts it, and exactly one row does. -/
def Obligations.DecoderFollowsTheOpcodeTable : Prop :=
  (∀ w : Word, (∃ i, decode w = .ok i) ↔ Command.wf w = true) ∧
  (∀ (w : Word) (r r' : Row), r ∈ opcodeTable → r' ∈ opcodeTable → r.accepts w = true → r'.accepts w = true → r = r') ∧
  (∀ (w : Word) (i : Instr), decode w = .ok i → ∃ r ∈ opcodeTable, r.accepts w = true ∧ r.mnemonic = i.mnemonic)

/-- R74 (D8): the illegal words are those with an opcode in the listed gaps, or a listed opcode with an operand bit set
that its format requires to be zero; performing one changes `res` alone, to (ILLEGAL, 0x00), so it raises no flag and
leaves no trace. `0x0000` and `0xFFFF` are among them. -/
def Obligations.IllegalWordsChangeOnlyTheResult : Prop :=
  (∀ w : Word, (∀ i, decode w ≠ .ok i) ↔
    ((opcodeOf w).toNat ≤ 0x0F ∨ (0x15 ≤ (opcodeOf w).toNat ∧ (opcodeOf w).toNat ≤ 0x1F) ∨
     (0x24 ≤ (opcodeOf w).toNat ∧ (opcodeOf w).toNat ≤ 0x2F) ∨ (0x32 ≤ (opcodeOf w).toNat ∧ (opcodeOf w).toNat ≤ 0x3F) ∨
     (0x43 ≤ (opcodeOf w).toNat ∧ (opcodeOf w).toNat ≤ 0x4F) ∨ (0x51 ≤ (opcodeOf w).toNat ∧ (opcodeOf w).toNat ≤ 0x5F) ∨
     0x64 ≤ (opcodeOf w).toNat) ∨
    (opcodeOf w = 0x20 ∧ 4 ≤ (operandOf w).toNat) ∨ (opcodeOf w = 0x40 ∧ 2 ≤ (operandOf w).toNat) ∨
    (opcodeOf w ≠ 0x10 ∧ opcodeOf w ≠ 0x21 ∧ opcodeOf w ≠ 0x20 ∧ opcodeOf w ≠ 0x40 ∧ operandOf w ≠ 0)) ∧
  (∀ (w : Word) (s : State), (∀ i, decode w ≠ .ok i) → runCommand w s = .next { s with res := ⟨.illegal, 0x00⟩ }) ∧
  (∀ i, decode 0x0000 ≠ .ok i) ∧ (∀ i, decode 0xFFFF ≠ .ok i)

/-- R76, R79 (D9, D12): the packed result word and snapshot word hold their fields where the rules say, with the numbers
of R76, R78 and R83. -/
def Obligations.PackedWordsHoldTheirFields : Prop :=
  (∀ r : Result, r.word.extractLsb' 8 4 = r.code.num ∧ r.word.extractLsb' 0 8 = r.data) ∧
  (∀ n : Snapshot, (snapWord n).extractLsb' 10 8 = n.occupancy ∧ (snapWord n).extractLsb' 8 2 = statusNum n.status ∧
    (snapWord n).extractLsb' 0 8 = n.lastByte) ∧
  [Code.ok, .full, .empty, .refused, .illegal].map Code.num = [0, 1, 2, 3, 4] ∧
  [StatusCode.ok, .overflow, .autoMode].map statusNum = [0, 1, 2] ∧
  [Phase.input, .snap, .pop, .send, .present].map Phase.num = [0, 1, 2, 3, 4] ∧
  snapWord ⟨3, .overflow, 0x44⟩ = 0x0D44

/-- R80: the assembler reads back the text of every operation, with every operand, also with a comment behind it; the
spelling chosen when printing is the model's own (log 18). -/
def Obligations.AssemblerReadsWhatItPrints : Prop :=
  ∀ (i : Instr) (comment : List Char),
    parseLine (lineText i) = some (.command i) ∧ parseLine (lineText i ++ ' ' :: ';' :: comment) = some (.command i)

/-- R81: RX d is IRQ 0 and RXI d, TXRDY is IRQ 1 and TXI, and TICK from P_INPUT is three FGSTEPs when neither the mode
(after a pending toggle) nor a trigger asks for a drain, four when one does and the buffer is empty, five otherwise. -/
def Obligations.PseudoOperationsExpand : Prop :=
  (∀ (s : State) (d : Byte), (Line.pseudo (.rx d)).commands s = [.irq .br, .rxi d]) ∧
  (∀ s : State, (Line.pseudo .txrdy).commands s = [.irq .tr, .txi]) ∧
  (∀ s : State, s.Inv → s.fgPhase = .input →
    ((s.autoModeFlag ^^ s.toggleEvt) = false → s.triggerEvt = false →
      (Line.pseudo .tick).commands s = [.fgstep, .fgstep, .fgstep]) ∧
    ((s.autoModeFlag ^^ s.toggleEvt) = true ∨ s.triggerEvt = true → s.head = s.tail →
      (Line.pseudo .tick).commands s = [.fgstep, .fgstep, .fgstep, .fgstep]) ∧
    ((s.autoModeFlag ^^ s.toggleEvt) = true ∨ s.triggerEvt = true → s.head ≠ s.tail →
      (Line.pseudo .tick).commands s = [.fgstep, .fgstep, .fgstep, .fgstep, .fgstep]))

/-! ## A step -/

/-- R13, R82: when the next command of the schedule decodes to `i`, a step is `exec i` with that command consumed.
The schedule is the model's own field (log 2). -/
def Obligations.StepRunsTheDecodedOperation : Prop :=
  ∀ (s : State) (w : Word) (rest : List Word) (i : Instr),
    s.schedule = w :: rest → decode w = .ok i → step s = exec i { s with schedule := rest }

/-- The word that `withFetchWord` presents is the one the next step performs, on the state as it was: the model's own
convention (log 2). -/
def Obligations.PresentedWordRunsNext : Prop :=
  ∀ (s : State) (w : Nat) (i : Instr), decodeTableWord 16 w = some i → step (s.withFetchWord 16 w) = exec i s

/-- With no command presented the state stays as it is, and an illegal command is consumed: the model's own choice
(log 3, log 8). -/
def Obligations.StepWithNothingToPerform : Prop :=
  (∀ s : State, s.schedule = [] → step s = .next s) ∧
  (∀ (s : State) (w : Word) (rest : List Word), s.schedule = w :: rest → (∀ i, decode w ≠ .ok i) →
    step s = .next { s with schedule := rest, res := ⟨.illegal, 0x00⟩ })

/-! ## Reset -/

/-- R180, R43: the reset state, for every instance and START: every element the rule gives a value, no slot written,
and empty, not full, of occupancy 0. -/
def Obligations.ResetStateValues : Prop :=
  ∀ (p : Params) (r : Nat),
    let s := State.resetWith p r
    s.head = p.start ∧ s.tail = p.start ∧ s.overflowFlag = false ∧ s.autoModeFlag = false ∧
    s.lastReceivedByte = p.last0 ∧ s.ie = false ∧ s.level = .fg ∧ (∀ c, s.pend.get c = false) ∧
    s.txIrqArmed = false ∧ s.toggleEvt = false ∧ s.triggerEvt = false ∧ s.fgPhase = .input ∧
    s.modeSnap = false ∧ s.trigSnap = false ∧ s.popped = none ∧ s.res = ⟨.ok, 0x00⟩ ∧ s.devTrace = [] ∧
    (∀ a, Memory.read a s.storage = none) ∧
    (p.start.toNat < p.slots → isEmpty s = true ∧ isFull s = false ∧ occupancy s = 0)

/-- R145 (D33): RESET completes from every state with every element at its reset value; the instance and the commands
still to come stay, and what is unspecified is free again (log 1, log 2, log 5). -/
def Obligations.ResetCommand : Prop :=
  ∀ s : State, ∃ t, exec .reset s = .next t ∧
    t.head = s.params.start ∧ t.tail = s.params.start ∧ t.overflowFlag = false ∧ t.autoModeFlag = false ∧
    t.lastReceivedByte = s.params.last0 ∧ t.ie = false ∧ t.level = .fg ∧ (∀ c, t.pend.get c = false) ∧
    t.txIrqArmed = false ∧ t.toggleEvt = false ∧ t.triggerEvt = false ∧ t.fgPhase = .input ∧
    t.modeSnap = false ∧ t.trigSnap = false ∧ t.popped = none ∧ t.res = ⟨.ok, 0x00⟩ ∧ t.devTrace = [] ∧
    (∀ a, Memory.read a t.storage = none) ∧ t.snap = Config.snapAtReset (s.resets + 1) ∧
    t.params = s.params ∧ t.schedule = s.schedule ∧ t.resets = s.resets + 1

/-! ## RingBuffer -/

/-- R96, R24: `adv` is increment modulo N and stays in `[0, MASK]`, for every byte; occupancy is `head - tail`, plus N
when `head < tail`; reducing modulo 256 first changes nothing. -/
def Obligations.IndexArithmetic : Prop :=
  (∀ (p : Params) (i : Byte), (adv p i).toNat = (i.toNat + 1) % p.slots ∧ (adv p i).toNat < p.slots ∧
    (i.toNat < p.slots → (adv p i).toNat = if i.toNat = p.slots - 1 then 0 else i.toNat + 1)) ∧
  (∀ s : State, s.head.toNat < s.params.slots → s.tail.toNat < s.params.slots →
    (occupancy s).toNat =
      if s.tail.toNat ≤ s.head.toNat then s.head.toNat - s.tail.toNat
      else s.head.toNat + s.params.slots - s.tail.toNat)

/-- R25: equal indices mean empty, `adv(head) == tail` means full; for indices in range, empty iff occupancy 0, full iff
occupancy MASK, never both, and the occupancy is at most MASK. -/
def Obligations.EmptyFullOccupancy : Prop :=
  ∀ s : State,
    (isEmpty s = true ↔ s.head = s.tail) ∧ (isFull s = true ↔ (s.head + 1) &&& s.params.mask = s.tail) ∧
    (s.head.toNat < s.params.slots → s.tail.toNat < s.params.slots →
      (isEmpty s = true ↔ occupancy s = 0) ∧ (isFull s = true ↔ (occupancy s).toNat = s.params.slots - 1) ∧
      ¬ (isEmpty s = true ∧ isFull s = true) ∧ (occupancy s).toNat ≤ s.params.slots - 1)

/-- R90: PUSH d. Full: nothing changes but `res`. Otherwise the byte goes to `storage[head]`, `head` advances, and no
other slot reads differently. -/
def Obligations.PushResult : Prop :=
  ∀ (d : Byte) (s : State),
    ((s.head + 1) &&& s.params.mask = s.tail → exec (.push d) s = .next { s with res := ⟨.full, 0x00⟩ }) ∧
    ((s.head + 1) &&& s.params.mask ≠ s.tail → s.head.toNat < s.params.slots →
      ∃ t, exec (.push d) s = .next t ∧ Memory.read s.head.toNat t.storage = some d ∧
        (∀ a, a ≠ s.head.toNat → Memory.read a t.storage = Memory.read a s.storage) ∧
        t = { s with storage := t.storage, head := (s.head + 1) &&& s.params.mask, res := ⟨.ok, 0x00⟩ })

/-- R91: POP. Empty: nothing changes but `res`. Otherwise the byte of `storage[tail]` is the result and `tail` advances;
`storage` and `head` stay. -/
def Obligations.PopResult : Prop :=
  ∀ s : State,
    (s.head = s.tail → exec .pop s = .next { s with res := ⟨.empty, 0x00⟩ }) ∧
    (∀ b, s.head ≠ s.tail → s.tail.toNat < s.params.slots → Memory.read s.tail.toNat s.storage = some b →
      exec .pop s = .next { s with tail := (s.tail + 1) &&& s.params.mask, res := ⟨.ok, b⟩ })

/-- Where no push has written the slot at `tail`, which no run reaches (R65), a pop completes with a free value (U1): the
model's choice (log 4). Everything else is as for a written slot. -/
def Obligations.UnwrittenSlotGivesAFreeValue : Prop :=
  ∀ s : State, s.head ≠ s.tail → s.tail.toNat < s.params.slots → Memory.read s.tail.toNat s.storage = none →
    let b := Config.slotAtReset s.resets s.tail.toNat
    exec .pop s = .next { s with tail := (s.tail + 1) &&& s.params.mask, res := ⟨.ok, b⟩ } ∧
    exec .drain s = .next { s with
      tail := (s.tail + 1) &&& s.params.mask, pend := { s.pend with tr := false }, txIrqArmed := true,
      devTrace := s.devTrace ++ [.tx b], ie := true, res := ⟨.ok, b⟩ } ∧
    (s.ie = true → s.pend.tr = true → exec .txi s = .next { s with
      tail := (s.tail + 1) &&& s.params.mask, pend := { s.pend with tr := false }, txIrqArmed := true,
      devTrace := s.devTrace ++ [.tx b], ie := true, level := .fg, res := ⟨.ok, b⟩ }) ∧
    (s.fgPhase = .pop → exec .fgstep s = .next { s with
      tail := (s.tail + 1) &&& s.params.mask, ie := true, popped := some b, fgPhase := .send, res := ⟨.ok, 3⟩ })

/-- R92, R94: EMPTY and OCC answer the predicate and the count and change `res` alone. -/
def Obligations.EmptyAndOccupancyResults : Prop :=
  ∀ s : State,
    exec .empty s = .next { s with res := ⟨.ok, if s.head = s.tail then 0x01 else 0x00⟩ } ∧
    exec .occ s = .next { s with res := ⟨.ok, (s.head - s.tail) &&& s.params.mask⟩ }

/-- R93 (D25): FULL answers the full predicate and changes `res` alone; so it answers whether a PUSH would fail. -/
def Obligations.FullResult : Prop :=
  ∀ s : State,
    exec .full s = .next { s with res := ⟨.ok, if (s.head + 1) &&& s.params.mask = s.tail then 0x01 else 0x00⟩ } ∧
    (∀ (d : Byte) (t u : State), exec .full s = .next t → exec (.push d) s = .next u →
      (t.res.data = 0x01 ↔ u.res.code = .full))

/-- R97(b), (c), (e): a successful push raises the occupancy by one, a successful pop lowers it by one, a failed one
leaves buffer and indices as they were. -/
def Obligations.PushPopMoveTheOccupancyByOne : Prop :=
  ∀ s : State, s.head.toNat < s.params.slots → s.tail.toNat < s.params.slots →
    (∀ (d : Byte) (t : State), exec (.push d) s = .next t →
      (t.res.code = .ok ∧ (occupancy t).toNat = (occupancy s).toNat + 1 ∧ (occupancy s).toNat < s.params.slots - 1) ∨
      (t.res.code = .full ∧ t.storage = s.storage ∧ t.head = s.head ∧ t.tail = s.tail ∧
        (occupancy s).toNat = s.params.slots - 1)) ∧
    (∀ t : State, exec .pop s = .next t →
      (t.res.code = .ok ∧ (occupancy t).toNat + 1 = (occupancy s).toNat) ∨
      (t.res.code = .empty ∧ t.storage = s.storage ∧ t.head = s.head ∧ t.tail = s.tail ∧ (occupancy s).toNat = 0))

/-- R98: a push or a received byte that finds the buffer full discards the new byte; every queued byte, every slot and
both indices stay. -/
def Obligations.FullBufferDiscardsTheNewestByte : Prop :=
  ∀ (d : Byte) (s : State), isFull s = true →
    (∃ t, exec (.push d) s = .next t ∧ t.storage = s.storage ∧ t.head = s.head ∧ t.tail = s.tail ∧ queue t = queue s) ∧
    (∃ t, exec (.rxi d) s = .next t ∧ t.storage = s.storage ∧ t.head = s.head ∧ t.tail = s.tail ∧ queue t = queue s)

/-- The two stops of the model, in states that no run reaches: an index above MASK (R24, R50; the model's choice, log 6)
stops the access, and phase P_SEND without a popped byte (the precondition of R142; the model's choice, log 7) stops. -/
def Obligations.StopsOutsideTheInvariant : Prop :=
  ∀ s : State,
    (∀ d, isFull s = false → s.params.slots ≤ s.head.toNat → exec (.push d) s = .fault .slotOutsideStorage) ∧
    (∀ d, isFull s = false → s.params.slots ≤ s.head.toNat → s.ie = true → s.pend.br = true →
      exec (.rxi d) s = .fault .slotOutsideStorage) ∧
    (isEmpty s = false → s.params.slots ≤ s.tail.toNat →
      exec .pop s = .fault .slotOutsideStorage ∧ exec .drain s = .fault .slotOutsideStorage ∧
      (s.ie = true → s.pend.tr = true → exec .txi s = .fault .slotOutsideStorage) ∧
      (s.fgPhase = .pop → exec .fgstep s = .fault .slotOutsideStorage)) ∧
    (s.fgPhase = .send → s.popped = none → exec .fgstep s = .fault .sendWithoutByte)

/-! ## Receive path -/

/-- R100: IRQ c makes the cause pending; `transmit_ready` only while armed, otherwise REFUSED (D45) and nothing changes. -/
def Obligations.IrqResult : Prop :=
  ∀ s : State,
    exec (.irq .br) s = .next { s with pend := { s.pend with br := true }, res := ⟨.ok, 0x00⟩ } ∧
    exec (.irq .ls) s = .next { s with pend := { s.pend with ls := true }, res := ⟨.ok, 0x00⟩ } ∧
    exec (.irq .re) s = .next { s with pend := { s.pend with re := true }, res := ⟨.ok, 0x00⟩ } ∧
    (s.txIrqArmed = true →
      exec (.irq .tr) s = .next { s with pend := { s.pend with tr := true }, res := ⟨.ok, 0x00⟩ }) ∧
    (s.txIrqArmed = false → exec (.irq .tr) s = .next { s with res := ⟨.refused, 0x00⟩ })

/-- R101: RXI d. Not deliverable: REFUSED. Otherwise the byte is received once, noted as the last byte (D15), and pushed;
on a full buffer it is discarded and the sticky flag set. Delivery is on again at the end. -/
def Obligations.RxiResult : Prop :=
  ∀ (d : Byte) (s : State),
    (¬ (s.ie = true ∧ s.pend.br = true) → exec (.rxi d) s = .next { s with res := ⟨.refused, 0x00⟩ }) ∧
    (s.ie = true → s.pend.br = true → (s.head + 1) &&& s.params.mask = s.tail →
      exec (.rxi d) s = .next { s with
        lastReceivedByte := d, overflowFlag := true, pend := { s.pend with br := false },
        devTrace := s.devTrace ++ [.rx d], ie := true, level := .fg, res := ⟨.full, 0x00⟩ }) ∧
    (s.ie = true → s.pend.br = true → (s.head + 1) &&& s.params.mask ≠ s.tail → s.head.toNat < s.params.slots →
      ∃ t, exec (.rxi d) s = .next t ∧ Memory.read s.head.toNat t.storage = some d ∧
        (∀ a, a ≠ s.head.toNat → Memory.read a t.storage = Memory.read a s.storage) ∧
        t = { s with
          storage := t.storage, head := (s.head + 1) &&& s.params.mask,
          lastReceivedByte := d, pend := { s.pend with br := false },
          devTrace := s.devTrace ++ [.rx d], ie := true, level := .fg, res := ⟨.ok, 0x00⟩ })

/-- R102, R103: LSI and REI acknowledge their cause and touch nothing else; not deliverable: REFUSED. -/
def Obligations.AcknowledgeHandlers : Prop :=
  ∀ s : State,
    (s.ie = true → s.pend.ls = true →
      exec .lsi s = .next { s with
        pend := { s.pend with ls := false }, devTrace := s.devTrace ++ [.ackLS],
        ie := true, level := .fg, res := ⟨.ok, 0x00⟩ }) ∧
    (¬ (s.ie = true ∧ s.pend.ls = true) → exec .lsi s = .next { s with res := ⟨.refused, 0x00⟩ }) ∧
    (s.ie = true → s.pend.re = true →
      exec .rei s = .next { s with
        pend := { s.pend with re := false }, devTrace := s.devTrace ++ [.ackRE],
        ie := true, level := .fg, res := ⟨.ok, 0x00⟩ }) ∧
    (¬ (s.ie = true ∧ s.pend.re = true) → exec .rei s = .next { s with res := ⟨.refused, 0x00⟩ })

/-! ## DrainConsumer -/

/-- R111: TXI. Not deliverable: REFUSED. Otherwise the oldest byte is transmitted, which re-arms the request (D26),
or, on an empty buffer, the request is disarmed; either way the cause is cleared and delivery is on at the end. -/
def Obligations.TxiResult : Prop :=
  ∀ s : State,
    (¬ (s.ie = true ∧ s.pend.tr = true) → exec .txi s = .next { s with res := ⟨.refused, 0x00⟩ }) ∧
    (s.ie = true → s.pend.tr = true → s.head = s.tail →
      exec .txi s = .next { s with
        pend := { s.pend with tr := false }, txIrqArmed := false, devTrace := s.devTrace ++ [.disarm],
        ie := true, level := .fg, res := ⟨.empty, 0x00⟩ }) ∧
    (∀ b, s.ie = true → s.pend.tr = true → s.head ≠ s.tail → s.tail.toNat < s.params.slots →
      Memory.read s.tail.toNat s.storage = some b →
      exec .txi s = .next { s with
        tail := (s.tail + 1) &&& s.params.mask, pend := { s.pend with tr := false }, txIrqArmed := true,
        devTrace := s.devTrace ++ [.tx b], ie := true, level := .fg, res := ⟨.ok, b⟩ })

/-- R112, R137: DRAIN. The bracket's close leaves `ie` at 1 whatever it was; a byte popped is transmitted; on an empty
buffer nothing else happens, and in particular no disarm. -/
def Obligations.DrainResult : Prop :=
  ∀ s : State,
    (s.head = s.tail → exec .drain s = .next { s with ie := true, res := ⟨.empty, 0x00⟩ }) ∧
    (∀ b, s.head ≠ s.tail → s.tail.toNat < s.params.slots → Memory.read s.tail.toNat s.storage = some b →
      exec .drain s = .next { s with
        tail := (s.tail + 1) &&& s.params.mask, pend := { s.pend with tr := false }, txIrqArmed := true,
        devTrace := s.devTrace ++ [.tx b], ie := true, res := ⟨.ok, b⟩ })

/-! ## ModeController and StatusPresenter -/

/-- R121: KEY latches its event and does nothing else; a latch already set stays set. -/
def Obligations.KeyResult : Prop :=
  ∀ s : State,
    exec (.key .toggle) s = .next { s with toggleEvt := true, res := ⟨.ok, 0x00⟩ } ∧
    exec (.key .trigger) s = .next { s with triggerEvt := true, res := ⟨.ok, 0x00⟩ }

/-- R122: TOGGLE flips the mode, answers the new mode, and changes nothing else, `overflow_flag` and `ie` included. -/
def Obligations.ToggleResult : Prop :=
  ∀ s : State,
    exec .toggle s = .next { s with
      autoModeFlag := !s.autoModeFlag, res := ⟨.ok, if s.autoModeFlag = true then 0x00 else 0x01⟩ }

/-- R123: CLROVF clears the sticky flag inside a bracket, which leaves `ie` at 1 (R137). -/
def Obligations.ClrovfResult : Prop :=
  ∀ s : State, exec .clrovf s = .next { s with overflowFlag := false, ie := true, res := ⟨.ok, 0x00⟩ }

/-- R130, R131: PRESENT writes the snapshot and `res` alone. Overflow is shown before AutoMode (D11). -/
def Obligations.PresentResult : Prop :=
  ∀ s : State,
    (s.overflowFlag = true →
      exec .present s = .next { s with
        snap := ⟨(s.head - s.tail) &&& s.params.mask, .overflow, s.lastReceivedByte⟩,
        res := ⟨.ok, s.params.statusEnc.overflow⟩ }) ∧
    (s.overflowFlag = false → s.autoModeFlag = true →
      exec .present s = .next { s with
        snap := ⟨(s.head - s.tail) &&& s.params.mask, .autoMode, s.lastReceivedByte⟩,
        res := ⟨.ok, s.params.statusEnc.autoMode⟩ }) ∧
    (s.overflowFlag = false → s.autoModeFlag = false →
      exec .present s = .next { s with
        snap := ⟨(s.head - s.tail) &&& s.params.mask, .ok, s.lastReceivedByte⟩,
        res := ⟨.ok, s.params.statusEnc.ok⟩ })

/-- R124: two toggles restore the whole state but `res`, and the display before and after is the same, from every state. -/
def Obligations.DoubleToggleRestores : Prop :=
  ∀ s : State,
    (∃ r, runInstrs [.toggle, .toggle] s = .next { s with res := r }) ∧
    runInstrs [.toggle, .toggle, .present] s = exec .present s

/-! ## Delivery control and the foreground tick -/

/-- R135, R136: DI and EI write `ie` at once, and nothing else. -/
def Obligations.DisableEnableResults : Prop :=
  ∀ s : State,
    exec .di s = .next { s with ie := false, res := ⟨.ok, 0x00⟩ } ∧
    exec .ei s = .next { s with ie := true, res := ⟨.ok, 0x00⟩ }

/-- R139 (D20): phase P_INPUT consumes a pending toggle event by one flip, and goes to P_SNAP. -/
def Obligations.InputPhase : Prop :=
  ∀ s : State, s.fgPhase = .input →
    (s.toggleEvt = true →
      exec .fgstep s = .next { s with
        toggleEvt := false, autoModeFlag := !s.autoModeFlag, fgPhase := .snap, res := ⟨.ok, 1⟩ }) ∧
    (s.toggleEvt = false → exec .fgstep s = .next { s with fgPhase := .snap, res := ⟨.ok, 1⟩ })

/-- R140 (D20): phase P_SNAP takes the mode and the trigger, consumes the trigger, and goes to P_POP if either is set,
else to P_PRESENT. -/
def Obligations.SnapPhase : Prop :=
  ∀ s : State, s.fgPhase = .snap →
    (s.autoModeFlag = true ∨ s.triggerEvt = true →
      exec .fgstep s = .next { s with
        modeSnap := s.autoModeFlag, trigSnap := s.triggerEvt, triggerEvt := false, fgPhase := .pop, res := ⟨.ok, 2⟩ }) ∧
    (s.autoModeFlag = false → s.triggerEvt = false →
      exec .fgstep s = .next { s with
        modeSnap := false, trigSnap := false, triggerEvt := false, fgPhase := .present, res := ⟨.ok, 4⟩ })

/-- R141 (D20): phase P_POP is the bracketed pop; a byte popped waits in `popped` for P_SEND, an empty buffer leads to
P_PRESENT with no disarm. -/
def Obligations.PopPhase : Prop :=
  ∀ s : State, s.fgPhase = .pop →
    (s.head = s.tail →
      exec .fgstep s = .next { s with ie := true, popped := none, fgPhase := .present, res := ⟨.ok, 4⟩ }) ∧
    (∀ b, s.head ≠ s.tail → s.tail.toNat < s.params.slots → Memory.read s.tail.toNat s.storage = some b →
      exec .fgstep s = .next { s with
        tail := (s.tail + 1) &&& s.params.mask, ie := true, popped := some b, fgPhase := .send, res := ⟨.ok, 3⟩ })

/-- R142, R113 (D20): phase P_SEND transmits the popped byte, which clears the pending transmit cause and arms the request,
and goes to P_PRESENT. That a write always clears and arms is the spec's own decision D26, followed as a choice (log 14). -/
def Obligations.SendPhase : Prop :=
  ∀ (s : State) (b : Byte), s.fgPhase = .send → s.popped = some b →
    exec .fgstep s = .next { s with
      pend := { s.pend with tr := false }, txIrqArmed := true, devTrace := s.devTrace ++ [.tx b],
      popped := none, fgPhase := .present, res := ⟨.ok, 4⟩ }

/-- R143 (D20): phase P_PRESENT writes the snapshot PRESENT would write, and goes to P_INPUT with the phase number, not the
display byte, as the data. -/
def Obligations.PresentPhase : Prop :=
  ∀ s t : State, s.fgPhase = .present → exec .present s = .next t →
    exec .fgstep s = .next { s with snap := t.snap, fgPhase := .input, res := ⟨.ok, 0⟩ }

/-- R112: DRAIN on a non-empty buffer is phase P_POP and then P_SEND with no other step between them, but for the phase
and the result word. -/
def Obligations.DrainIsPopThenSend : Prop :=
  ∀ s : State, s.Inv → s.fgPhase = .pop → isEmpty s = false →
    ∃ t u, runInstrs [.fgstep, .fgstep] s = .next t ∧ exec .drain s = .next u ∧
      u = { t with fgPhase := .pop, res := u.res } ∧ t.fgPhase = .present

/-- R144(a), (b), (e): from P_INPUT a tick is 3, 4 or 5 phases and no phase before the last is P_INPUT; it transmits at
most one byte and takes at most one from the queue; from any phase P_INPUT is at most five phases away. -/
def Obligations.TickTerminates : Prop :=
  (∀ s : State, s.Inv → s.fgPhase = .input → ∃ n t, n ∈ [3, 4, 5] ∧
    runInstrs (phases n) s = .next t ∧ t.fgPhase = .input ∧
    (∀ m u, 0 < m → m < n → runInstrs (phases m) s = .next u → u.fgPhase ≠ .input) ∧
    (∃ sent, txOut t = txOut s ++ sent ∧ queue s = sent ++ queue t ∧ sent.length ≤ 1)) ∧
  (∀ s : State, s.Inv → ∃ n t, 0 < n ∧ n ≤ 5 ∧ runInstrs (phases n) s = .next t ∧ t.fgPhase = .input)

/-- R144(c): in on-demand mode with no event latched, a tick writes only `mode_snap`, `trig_snap`, `snap`, `fg_phase` and
`res`. -/
def Obligations.QuietTickTransmitsNothing : Prop :=
  ∀ s : State, s.fgPhase = .input → s.autoModeFlag = false → s.triggerEvt = false → s.toggleEvt = false →
    ∃ n, runInstrs (phases 3) s = .next { s with
      modeSnap := false, trigSnap := false, snap := n, fgPhase := .input, res := ⟨.ok, 0⟩ }

/-! ## Frames: what every operation leaves as it was -/

/-- R42, R50, R53, R66: a slot changes only by PUSH or RXI, and only the one at `head`; `head` only by those, `tail` only
by POP, TXI, DRAIN and phase P_POP; RESET excepted throughout. -/
def Obligations.BufferFrame : Prop :=
  ∀ (i : Instr) (s t : State), exec i s = .next t → i ≠ .reset →
    (∀ a, (∀ d, (i ≠ .push d ∧ i ≠ .rxi d) ∨ a ≠ s.head.toNat) → Memory.read a t.storage = Memory.read a s.storage) ∧
    ((∀ d, i ≠ .push d ∧ i ≠ .rxi d) → t.storage = s.storage ∧ t.head = s.head) ∧
    (i ≠ .pop → i ≠ .txi → i ≠ .drain → ¬ (i = .fgstep ∧ s.fgPhase = .pop) → t.tail = s.tail)

/-- R26, R27, R28, R42: `overflow_flag` is set by RXI alone and cleared by CLROVF alone; `auto_mode_flag` is written by
TOGGLE and phase P_INPUT; `last_received_byte` by RXI; RESET excepted throughout. -/
def Obligations.StatusFrame : Prop :=
  ∀ (i : Instr) (s t : State), exec i s = .next t → i ≠ .reset →
    ((∀ d, i ≠ .rxi d) → i ≠ .clrovf → t.overflowFlag = s.overflowFlag) ∧
    (∀ d, i = .rxi d → s.overflowFlag = true → t.overflowFlag = true) ∧
    (i ≠ .toggle → ¬ (i = .fgstep ∧ s.fgPhase = .input) → t.autoModeFlag = s.autoModeFlag) ∧
    ((∀ d, i ≠ .rxi d) → t.lastReceivedByte = s.lastReceivedByte)

/-- R30, R32, R33, R157: who writes `ie`, each pending bit and `tx_irq_armed`; RESET excepted throughout. -/
def Obligations.DeliveryFrame : Prop :=
  ∀ (i : Instr) (s t : State), exec i s = .next t → i ≠ .reset →
    (s.ie = true → t.ie = false → i = .di) ∧
    (s.ie = false → t.ie = true → i = .ei ∨ i = .drain ∨ i = .clrovf ∨ (i = .fgstep ∧ s.fgPhase = .pop)) ∧
    (i ≠ .irq .br → (∀ d, i ≠ .rxi d) → t.pend.br = s.pend.br) ∧
    (i ≠ .irq .tr → i ≠ .txi → i ≠ .drain → ¬ (i = .fgstep ∧ s.fgPhase = .send) →
      t.pend.tr = s.pend.tr ∧ t.txIrqArmed = s.txIrqArmed) ∧
    (i = .irq .tr → t.txIrqArmed = s.txIrqArmed) ∧
    (i ≠ .irq .ls → i ≠ .lsi → t.pend.ls = s.pend.ls) ∧
    (i ≠ .irq .re → i ≠ .rei → t.pend.re = s.pend.re)

/-- R34 to R39, R160: the latches, the foreground's context and the snapshot are written by KEY, FGSTEP and PRESENT alone,
so no handler touches the preempted context; RESET excepted throughout. -/
def Obligations.ForegroundFrame : Prop :=
  ∀ (i : Instr) (s t : State), exec i s = .next t → i ≠ .reset →
    (i ≠ .key .toggle → ¬ (i = .fgstep ∧ s.fgPhase = .input) → t.toggleEvt = s.toggleEvt) ∧
    (i ≠ .key .trigger → ¬ (i = .fgstep ∧ s.fgPhase = .snap) → t.triggerEvt = s.triggerEvt) ∧
    (i ≠ .fgstep →
      t.fgPhase = s.fgPhase ∧ t.modeSnap = s.modeSnap ∧ t.trigSnap = s.trigSnap ∧ t.popped = s.popped) ∧
    (i ≠ .present → ¬ (i = .fgstep ∧ s.fgPhase = .present) → t.snap = s.snap)

/-- R40, R104, R114, R165, R167: the device calls each operation makes: one `Rx` per performed RXI; `Disarm` by TXI alone;
`Tx` by TXI, DRAIN and phase P_SEND; the acknowledges by their handlers; none by any other operation. -/
def Obligations.DeviceCallsOfEachOperation : Prop :=
  ∀ (i : Instr) (s t : State), exec i s = .next t → i ≠ .reset →
    ∃ calls, t.devTrace = s.devTrace ++ calls ∧ calls.length ≤ 1 ∧
      (∀ d, DevCall.rx d ∈ calls ↔ (i = .rxi d ∧ s.ie = true ∧ s.pend.br = true)) ∧
      (DevCall.disarm ∈ calls ↔ (i = .txi ∧ s.ie = true ∧ s.pend.tr = true ∧ isEmpty s = true)) ∧
      (∀ b, DevCall.tx b ∈ calls ↔
        (i = .txi ∧ s.ie = true ∧ s.pend.tr = true ∧ isEmpty s = false ∧ b = slotByte s s.tail) ∨
        (i = .drain ∧ isEmpty s = false ∧ b = slotByte s s.tail) ∨
        (i = .fgstep ∧ s.fgPhase = .send ∧ s.popped = some b)) ∧
      (DevCall.ackLS ∈ calls ↔ (i = .lsi ∧ s.ie = true ∧ s.pend.ls = true)) ∧
      (DevCall.ackRE ∈ calls ↔ (i = .rei ∧ s.ie = true ∧ s.pend.re = true))

/-- R7, R181: no operation changes the instance; the schedule and the reset counter, the model's own fields (log 2, log 5),
are not written by an operation, RESET counting itself. -/
def Obligations.InstanceNeverChanges : Prop :=
  (∀ (i : Instr) (s t : State), exec i s = .next t →
    t.params = s.params ∧ t.schedule = s.schedule ∧ (i ≠ .reset → t.resets = s.resets)) ∧
  (∀ s t : State, step s = .next t → t.params = s.params ∧ t.schedule = s.schedule.tail)

/-! ## Interrupts -/

/-- R59, R135, R155, R158: while delivery is off every handler is REFUSED and changes `res` alone, whatever is pending. -/
def Obligations.HandlersRefusedWhileMasked : Prop :=
  ∀ (i : Instr) (s : State), i.agent = .int → s.ie = false → exec i s = .next { s with res := ⟨.refused, 0x00⟩ }

/-- R160, R162, R163: an operation leaves the level at FG if it found it there, and a handler has no net effect on `ie`. -/
def Obligations.HandlersReturnWithDeliveryOn : Prop :=
  (∀ (i : Instr) (s t : State), exec i s = .next t → s.level = .fg → t.level = .fg) ∧
  (∀ (i : Instr) (s t : State), exec i s = .next t → i.agent = .int → t.ie = s.ie)

/-- R173: after a performed TXI the cause is not pending and the request is armed only if a byte was written; after a
performed RXI its cause is not pending. So no storm is reachable. -/
def Obligations.NoInterruptStorm : Prop :=
  ∀ s t : State, s.ie = true →
    (s.pend.tr = true → exec .txi s = .next t → t.pend.tr = false ∧ (t.txIrqArmed = true ↔ isEmpty s = false)) ∧
    (∀ d, s.pend.br = true → exec (.rxi d) s = .next t → t.pend.br = false)

/-- R115: from a state that meets the invariant, with delivery on and the request armed, one TXRDY pair per queued byte
transmits the whole queue in order; one more pair disarms, after which IRQ 1 is REFUSED. -/
def Obligations.BurstDrainsTheWholeQueue : Prop :=
  ∀ s : State, s.Inv → s.ie = true → s.txIrqArmed = true →
    ∃ t u, runInstrs (pseudoBurst (queue s).length) s = .next t ∧ txOut t = txOut s ++ queue s ∧ queue t = [] ∧
      runInstrs pseudoTxrdy t = .next u ∧ txOut u = txOut t ∧ u.txIrqArmed = false ∧ u.pend.tr = false ∧
      exec (.irq .tr) u = .next { u with res := ⟨.refused, 0x00⟩ }

/-- R197: a TXI between P_POP and P_SEND transmits a later byte first: for every three bytes, on N = 4 from START = 0, the
schedule of program P6 transmits the first, the third, the second, and leaves the queue empty. -/
def Obligations.TransmitOrderCanInvert : Prop :=
  ∀ (p : Params) (a b c : Byte), p.logN = 1 → p.start = 0 →
    ∃ t, runInstrs
      ([.ei, .toggle] ++ pseudoRx a ++ pseudoRx b ++ pseudoRx c ++
        [.drain, .fgstep, .fgstep, .fgstep, .irq .tr, .txi, .fgstep, .fgstep])
      (State.resetWith p 0) = .next t ∧ txOut t = [a, c, b] ∧ queue t = []

/-! ## Whole-machine rules -/

/-- R126, R116, R120: the mode reaches neither producer nor consumer: changing `auto_mode_flag` alone changes nothing that
PUSH, POP, the queries, IRQ, the handlers or DRAIN do. -/
def Obligations.ModeDoesNotReachTheBuffer : Prop :=
  ∀ (i : Instr) (s t : State) (m : Bool), i.agent = .int ∨ i.agent = .dev ∨
      i ∈ [Instr.pop, .empty, .full, .occ, .drain] ∨ (∃ d, i = .push d) →
    exec i s = .next t → exec i { s with autoModeFlag := m } = .next { t with autoModeFlag := m }

/-- R65 (U1): what the slots outside the queue hold makes no difference: two states that meet the invariant and differ
only in `storage`, with the same queue, do the same thing and stay so. -/
def Obligations.DeadSlotsMakeNoDifference : Prop :=
  ∀ (i : Instr) (s s' t : State), s.Inv → s'.Inv → s' = { s with storage := s'.storage } → queue s' = queue s →
    exec i s = .next t →
    ∃ t', exec i s' = .next t' ∧ t' = { t with storage := t'.storage } ∧ queue t' = queue t

/-- R62, R97(d), R44(d): every operation but RESET treats the buffer as a FIFO queue: what it accepted goes to the end,
what it released came from the front; RESET empties it. -/
def Obligations.BufferIsAFifoQueue : Prop :=
  ∀ (i : Instr) (s t : State), s.Inv → exec i s = .next t →
    (i ≠ .reset → queue s ++ acceptedBy i t = releasedBy i s t ++ queue t) ∧ (i = .reset → queue t = [])

/-- R44(d), R62: on every schedule of commands, legal or not, from the reset state of every instance, the bytes released
since the last reset, then the queue, are exactly the bytes accepted since it, in order; and no step of it stops. -/
def Obligations.RunsKeepFifoOrder : Prop :=
  ∀ (p : Params) (r n : Nat) (commands : List Word), p.wf = true →
    ∃ t h, runHistory n { State.resetWith p r with schedule := commands } ⟨[], []⟩ = some (t, h) ∧
      h.released ++ queue t = h.accepted

/-- R44, R43: the reset state of every instance meets the invariant. -/
def Obligations.ResetMeetsTheInvariant : Prop :=
  ∀ (p : Params) (r : Nat) (commands : List Word), p.wf = true →
    State.Inv { State.resetWith p r with schedule := commands }

/-- R44, R164: every step keeps the invariant. -/
def Obligations.StepKeepsTheInvariant : Prop :=
  ∀ s t : State, s.Inv → step s = .next t → t.Inv

/-- R154: in a state that meets the invariant every operation and every command has a next state: nothing halts. -/
def Obligations.NoStopUnderInvariant : Prop :=
  ∀ s : State, s.Inv → (∀ i, ∃ t, exec i s = .next t) ∧ (∃ t, step s = .next t)
end

