-- ==== Sys2Proof/Laws/Index.lean ====
section
/-! SUPPORT. Index arithmetic (40_ringbuffer R96): masking is reduction modulo N, in numbers. -/

namespace Sys2Proof

theorem Params.slots_dvd (p : Params) : p.slots ∣ 256 := by
  unfold Params.slots
  exact pow_dvd_pow 2 (by omega : p.logN.val + 1 ≤ 8)

theorem Params.two_le_slots (p : Params) : 2 ≤ p.slots := by
  unfold Params.slots
  calc 2 = 2 ^ 1 := rfl
    _ ≤ 2 ^ (p.logN.val + 1) := Nat.pow_le_pow_right (by decide) (by omega)

theorem Params.slots_le (p : Params) : p.slots ≤ 256 := Nat.le_of_dvd (by decide) p.slots_dvd

theorem Params.mask_toNat (p : Params) : p.mask.toNat = p.slots - 1 := by
  have h := p.slots_le
  have h2 := p.two_le_slots
  unfold Params.mask
  rw [BitVec.toNat_ofNat]
  exact Nat.mod_eq_of_lt (by omega)

end Sys2Proof

namespace Sys2Proof.Machine

theorem and_mask_toNat (p : Params) (x : Byte) : (x &&& p.mask).toNat = x.toNat % p.slots := by
  rw [BitVec.toNat_and, Params.mask_toNat]
  exact Nat.and_two_pow_sub_one_eq_mod x.toNat (p.logN.val + 1)

theorem and_mask_lt (p : Params) (x : Byte) : (x &&& p.mask).toNat < p.slots := by
  rw [and_mask_toNat]
  exact Nat.mod_lt _ (by have := p.two_le_slots; omega)

/-- Reducing modulo 256 first changes nothing (R9, R96). -/
theorem mod256_mod_slots (p : Params) (n : Nat) : n % 256 % p.slots = n % p.slots := Nat.mod_mod_of_dvd n p.slots_dvd

theorem adv_toNat (p : Params) (i : Byte) : (adv p i).toNat = (i.toNat + 1) % p.slots := by
  unfold adv
  rw [and_mask_toNat, BitVec.toNat_add]
  exact mod256_mod_slots p _

theorem adv_lt (p : Params) (i : Byte) : (adv p i).toNat < p.slots := and_mask_lt p _

theorem liveIndex_toNat (s : State) (k : Nat) : (liveIndex s k).toNat = (s.tail.toNat + k) % s.params.slots := by
  unfold liveIndex
  rw [and_mask_toNat, BitVec.toNat_add, BitVec.toNat_ofNat, mod256_mod_slots, ← mod256_mod_slots, Nat.add_mod_mod,
    mod256_mod_slots]

theorem occupancy_toNat (s : State) :
    (occupancy s).toNat = (s.head.toNat + (256 - s.tail.toNat)) % s.params.slots := by
  unfold occupancy
  rw [and_mask_toNat, BitVec.toNat_sub, mod256_mod_slots, Nat.add_comm]

/-- Occupancy as the two cases of R96, for indices in range. -/
theorem occupancy_cases (s : State) (hh : s.head.toNat < s.params.slots) (ht : s.tail.toNat < s.params.slots) :
    (s.tail.toNat ≤ s.head.toNat ∧ (occupancy s).toNat = s.head.toNat - s.tail.toNat) ∨
    (s.head.toNat < s.tail.toNat ∧ (occupancy s).toNat = s.head.toNat + s.params.slots - s.tail.toNat) := by
  obtain ⟨c, hc⟩ := s.params.slots_dvd
  have h2 := s.params.two_le_slots
  have hc1 : 1 ≤ c := by
    rcases Nat.eq_zero_or_pos c with h | h
    · subst h; omega
    · exact h
  rw [occupancy_toNat]
  generalize hn : s.params.slots = n at *
  rcases Nat.lt_or_ge s.head.toNat s.tail.toNat with hlt | hge
  · refine .inr ⟨hlt, ?_⟩
    have e : s.head.toNat + (256 - s.tail.toNat) = (s.head.toNat + n - s.tail.toNat) + n * (c - 1) := by
      have : n * c = n * (c - 1) + n := by
        conv_lhs => rw [show c = (c - 1) + 1 by omega]
        ring
      omega
    rw [e, Nat.add_mul_mod_self_left, Nat.mod_eq_of_lt (by omega)]
  · refine .inl ⟨hge, ?_⟩
    have e : s.head.toNat + (256 - s.tail.toNat) = (s.head.toNat - s.tail.toNat) + n * c := by omega
    rw [e, Nat.add_mul_mod_self_left, Nat.mod_eq_of_lt (by omega)]

/-- An advance as the two cases of R96. -/
theorem adv_cases (p : Params) (i : Byte) (h : i.toNat < p.slots) :
    (i.toNat + 1 = p.slots ∧ (adv p i).toNat = 0) ∨ (i.toNat + 1 < p.slots ∧ (adv p i).toNat = i.toNat + 1) := by
  rw [adv_toNat]
  rcases Nat.lt_or_ge (i.toNat + 1) p.slots with hlt | hge
  · exact .inr ⟨hlt, Nat.mod_eq_of_lt hlt⟩
  · have e : i.toNat + 1 = p.slots := by omega
    exact .inl ⟨e, by rw [e, Nat.mod_self]⟩

theorem bufferEmpty_iff (s : State) : isEmpty s = true ↔ s.head.toNat = s.tail.toNat := by
  unfold isEmpty
  rw [beq_iff_eq, BitVec.toNat_inj]

theorem bufferFull_iff (s : State) : isFull s = true ↔ (adv s.params s.head).toNat = s.tail.toNat := by
  unfold isFull
  rw [beq_iff_eq, BitVec.toNat_inj]

end Sys2Proof.Machine
end

