-- ==== Sys2Proof/Laws/Memory.lean ====
section
/-! SUPPORT. `storage` as data: read after write, and every write keeps the canonical form. -/

namespace Sys2Proof.Machine

theorem read_write_same (m : Memory) (a : Nat) (b : Byte) : Memory.read a (Memory.write a b m) = some b := by
  induction m with
  | nil => simp [Memory.write, Memory.read]
  | cons c m ih =>
    obtain ⟨k, v⟩ := c
    unfold Memory.write
    split
    · simp [Memory.read]
    · split
      · simp [Memory.read]
      · rename_i h
        simp [Memory.read, Ne.symm h, ih]

theorem read_write_other (m : Memory) (a x : Nat) (b : Byte) (h : x ≠ a) :
    Memory.read x (Memory.write a b m) = Memory.read x m := by
  induction m with
  | nil => simp [Memory.write, Memory.read, Ne.symm h]
  | cons c m ih =>
    obtain ⟨k, v⟩ := c
    unfold Memory.write
    split
    · simp [Memory.read, Ne.symm h]
    · split
      · rename_i e
        subst e
        simp [Memory.read, Ne.symm h]
      · simp [Memory.read, ih]

theorem all_write (p : Host.Cell → Bool) (m : Memory) (a : Nat) (b : Byte) (ha : p (a, b) = true)
    (hm : m.all p = true) : (Memory.write a b m).all p = true := by
  induction m with
  | nil => simp [Memory.write, ha]
  | cons c m ih =>
    obtain ⟨k, v⟩ := c
    simp only [List.all_cons, Bool.and_eq_true] at hm
    unfold Memory.write
    split
    · simp [ha, hm.1, hm.2]
    · split
      · simp [ha, hm.2]
      · simp [hm.1, ih hm.2]

/-- A write inside the address space keeps the canonical form. -/
theorem write_wf (n : Nat) (m : Memory) (a : Nat) (b : Byte) (ha : a < n) (hm : Memory.wf n m = true) :
    Memory.wf n (Memory.write a b m) = true := by
  induction m with
  | nil => simp [Memory.write, Memory.wf, ha]
  | cons c m ih =>
    obtain ⟨k, v⟩ := c
    simp only [Memory.wf, Bool.and_eq_true, decide_eq_true_eq] at hm
    obtain ⟨⟨hk, hall⟩, hm⟩ := hm
    unfold Memory.write
    split
    · rename_i h
      have : m.all (fun c => decide (a < c.1)) = true := by
        rw [List.all_eq_true] at hall ⊢
        intro c hc
        have := hall c hc
        simp only [decide_eq_true_eq] at this ⊢
        omega
      simp [Memory.wf, ha, hk, h, hall, hm, this]
    · split
      · rename_i e
        subst e
        simp [Memory.wf, ha, hall, hm]
      · rename_i h1 h2
        have hak : decide (k < ((a, b) : Host.Cell).1) = true := decide_eq_true (by simp only; omega)
        simp [Memory.wf, hk, ih hm, all_write _ m a b hak hall]

/-- Two canonical memories that read alike are the same list. -/
theorem wf_ext (n : Nat) (m m' : Memory) (h : Memory.wf n m = true) (h' : Memory.wf n m' = true)
    (e : ∀ a, Memory.read a m = Memory.read a m') : m = m' := by
  have below : ∀ (m : Memory) (x : Nat), m.all (fun c => decide (x < c.1)) = true → ∀ a, a ≤ x → Memory.read a m = none := by
    intro m x hm a ha
    induction m with
    | nil => rfl
    | cons c m ih =>
      obtain ⟨k, v⟩ := c
      simp only [List.all_cons, Bool.and_eq_true, decide_eq_true_eq] at hm
      have : k ≠ a := by omega
      simp [Memory.read, this, ih hm.2]
  induction m generalizing m' with
  | nil =>
    cases m' with
    | nil => rfl
    | cons c' m' => have := e c'.1; simp [Memory.read] at this
  | cons c m ih =>
    obtain ⟨k, v⟩ := c
    simp only [Memory.wf, Bool.and_eq_true, decide_eq_true_eq] at h
    obtain ⟨⟨-, hall⟩, hw⟩ := h
    cases m' with
    | nil => have := e k; simp [Memory.read] at this
    | cons c' m' =>
      obtain ⟨k', v'⟩ := c'
      simp only [Memory.wf, Bool.and_eq_true, decide_eq_true_eq] at h'
      obtain ⟨⟨-, hall'⟩, hw'⟩ := h'
      have hk : k = k' := by
        rcases Nat.lt_trichotomy k k' with hlt | heq | hgt
        · have := e k
          rw [Memory.read, if_pos rfl, Memory.read, if_neg (by omega), below m' k' hall' k (by omega)] at this
          cases this
        · exact heq
        · have := e k'
          rw [Memory.read, if_neg (by omega), Memory.read, if_pos rfl, below m k hall k' (by omega)] at this
          cases this
      subst hk
      have hv : v = v' := by have := e k; simpa [Memory.read] using this
      subst hv
      congr 1
      refine ih m' hw hw' fun a => ?_
      rcases Nat.decEq k a with hne | heq
      · have := e a
        simpa [Memory.read, hne] using this
      · rw [below m k hall a (by omega), below m' k hall' a (by omega)]

end Sys2Proof.Machine
end

