-- ==== Sys2Proof/Laws/State.lean ====
section
/-! SUPPORT. One lemma per field per named update of the state, each true by rfl, so that no proof unfolds a record
update. -/

namespace Sys2Proof.Machine

section
variable (s : State)

/-! ### setRes -/

@[simp] theorem setRes_storage (c : Code) (d : Byte) : (setRes c d s).storage = s.storage := rfl
@[simp] theorem setRes_head (c : Code) (d : Byte) : (setRes c d s).head = s.head := rfl
@[simp] theorem setRes_tail (c : Code) (d : Byte) : (setRes c d s).tail = s.tail := rfl
@[simp] theorem setRes_overflowFlag (c : Code) (d : Byte) : (setRes c d s).overflowFlag = s.overflowFlag := rfl
@[simp] theorem setRes_autoModeFlag (c : Code) (d : Byte) : (setRes c d s).autoModeFlag = s.autoModeFlag := rfl
@[simp] theorem setRes_lastReceivedByte (c : Code) (d : Byte) : (setRes c d s).lastReceivedByte = s.lastReceivedByte := rfl
@[simp] theorem setRes_ie (c : Code) (d : Byte) : (setRes c d s).ie = s.ie := rfl
@[simp] theorem setRes_level (c : Code) (d : Byte) : (setRes c d s).level = s.level := rfl
@[simp] theorem setRes_pend (c : Code) (d : Byte) : (setRes c d s).pend = s.pend := rfl
@[simp] theorem setRes_txIrqArmed (c : Code) (d : Byte) : (setRes c d s).txIrqArmed = s.txIrqArmed := rfl
@[simp] theorem setRes_toggleEvt (c : Code) (d : Byte) : (setRes c d s).toggleEvt = s.toggleEvt := rfl
@[simp] theorem setRes_triggerEvt (c : Code) (d : Byte) : (setRes c d s).triggerEvt = s.triggerEvt := rfl
@[simp] theorem setRes_fgPhase (c : Code) (d : Byte) : (setRes c d s).fgPhase = s.fgPhase := rfl
@[simp] theorem setRes_modeSnap (c : Code) (d : Byte) : (setRes c d s).modeSnap = s.modeSnap := rfl
@[simp] theorem setRes_trigSnap (c : Code) (d : Byte) : (setRes c d s).trigSnap = s.trigSnap := rfl
@[simp] theorem setRes_popped (c : Code) (d : Byte) : (setRes c d s).popped = s.popped := rfl
@[simp] theorem setRes_snap (c : Code) (d : Byte) : (setRes c d s).snap = s.snap := rfl
@[simp] theorem setRes_res (c : Code) (d : Byte) : (setRes c d s).res = ⟨c, d⟩ := rfl
@[simp] theorem setRes_devTrace (c : Code) (d : Byte) : (setRes c d s).devTrace = s.devTrace := rfl
@[simp] theorem setRes_params (c : Code) (d : Byte) : (setRes c d s).params = s.params := rfl
@[simp] theorem setRes_resets (c : Code) (d : Byte) : (setRes c d s).resets = s.resets := rfl
@[simp] theorem setRes_schedule (c : Code) (d : Byte) : (setRes c d s).schedule = s.schedule := rfl

/-! ### refuse -/

@[simp] theorem refuse_storage : (refuse s).storage = s.storage := rfl
@[simp] theorem refuse_head : (refuse s).head = s.head := rfl
@[simp] theorem refuse_tail : (refuse s).tail = s.tail := rfl
@[simp] theorem refuse_overflowFlag : (refuse s).overflowFlag = s.overflowFlag := rfl
@[simp] theorem refuse_autoModeFlag : (refuse s).autoModeFlag = s.autoModeFlag := rfl
@[simp] theorem refuse_lastReceivedByte : (refuse s).lastReceivedByte = s.lastReceivedByte := rfl
@[simp] theorem refuse_ie : (refuse s).ie = s.ie := rfl
@[simp] theorem refuse_level : (refuse s).level = s.level := rfl
@[simp] theorem refuse_pend : (refuse s).pend = s.pend := rfl
@[simp] theorem refuse_txIrqArmed : (refuse s).txIrqArmed = s.txIrqArmed := rfl
@[simp] theorem refuse_toggleEvt : (refuse s).toggleEvt = s.toggleEvt := rfl
@[simp] theorem refuse_triggerEvt : (refuse s).triggerEvt = s.triggerEvt := rfl
@[simp] theorem refuse_fgPhase : (refuse s).fgPhase = s.fgPhase := rfl
@[simp] theorem refuse_modeSnap : (refuse s).modeSnap = s.modeSnap := rfl
@[simp] theorem refuse_trigSnap : (refuse s).trigSnap = s.trigSnap := rfl
@[simp] theorem refuse_popped : (refuse s).popped = s.popped := rfl
@[simp] theorem refuse_snap : (refuse s).snap = s.snap := rfl
@[simp] theorem refuse_res : (refuse s).res = ⟨.refused, 0x00⟩ := rfl
@[simp] theorem refuse_devTrace : (refuse s).devTrace = s.devTrace := rfl
@[simp] theorem refuse_params : (refuse s).params = s.params := rfl
@[simp] theorem refuse_resets : (refuse s).resets = s.resets := rfl
@[simp] theorem refuse_schedule : (refuse s).schedule = s.schedule := rfl

/-! ### illegal -/

@[simp] theorem illegal_storage : (illegal s).storage = s.storage := rfl
@[simp] theorem illegal_head : (illegal s).head = s.head := rfl
@[simp] theorem illegal_tail : (illegal s).tail = s.tail := rfl
@[simp] theorem illegal_overflowFlag : (illegal s).overflowFlag = s.overflowFlag := rfl
@[simp] theorem illegal_autoModeFlag : (illegal s).autoModeFlag = s.autoModeFlag := rfl
@[simp] theorem illegal_lastReceivedByte : (illegal s).lastReceivedByte = s.lastReceivedByte := rfl
@[simp] theorem illegal_ie : (illegal s).ie = s.ie := rfl
@[simp] theorem illegal_level : (illegal s).level = s.level := rfl
@[simp] theorem illegal_pend : (illegal s).pend = s.pend := rfl
@[simp] theorem illegal_txIrqArmed : (illegal s).txIrqArmed = s.txIrqArmed := rfl
@[simp] theorem illegal_toggleEvt : (illegal s).toggleEvt = s.toggleEvt := rfl
@[simp] theorem illegal_triggerEvt : (illegal s).triggerEvt = s.triggerEvt := rfl
@[simp] theorem illegal_fgPhase : (illegal s).fgPhase = s.fgPhase := rfl
@[simp] theorem illegal_modeSnap : (illegal s).modeSnap = s.modeSnap := rfl
@[simp] theorem illegal_trigSnap : (illegal s).trigSnap = s.trigSnap := rfl
@[simp] theorem illegal_popped : (illegal s).popped = s.popped := rfl
@[simp] theorem illegal_snap : (illegal s).snap = s.snap := rfl
@[simp] theorem illegal_res : (illegal s).res = ⟨.illegal, 0x00⟩ := rfl
@[simp] theorem illegal_devTrace : (illegal s).devTrace = s.devTrace := rfl
@[simp] theorem illegal_params : (illegal s).params = s.params := rfl
@[simp] theorem illegal_resets : (illegal s).resets = s.resets := rfl
@[simp] theorem illegal_schedule : (illegal s).schedule = s.schedule := rfl

/-! ### advanceHead -/

@[simp] theorem advanceHead_storage : (advanceHead s).storage = s.storage := rfl
@[simp] theorem advanceHead_head : (advanceHead s).head = adv s.params s.head := rfl
@[simp] theorem advanceHead_tail : (advanceHead s).tail = s.tail := rfl
@[simp] theorem advanceHead_overflowFlag : (advanceHead s).overflowFlag = s.overflowFlag := rfl
@[simp] theorem advanceHead_autoModeFlag : (advanceHead s).autoModeFlag = s.autoModeFlag := rfl
@[simp] theorem advanceHead_lastReceivedByte : (advanceHead s).lastReceivedByte = s.lastReceivedByte := rfl
@[simp] theorem advanceHead_ie : (advanceHead s).ie = s.ie := rfl
@[simp] theorem advanceHead_level : (advanceHead s).level = s.level := rfl
@[simp] theorem advanceHead_pend : (advanceHead s).pend = s.pend := rfl
@[simp] theorem advanceHead_txIrqArmed : (advanceHead s).txIrqArmed = s.txIrqArmed := rfl
@[simp] theorem advanceHead_toggleEvt : (advanceHead s).toggleEvt = s.toggleEvt := rfl
@[simp] theorem advanceHead_triggerEvt : (advanceHead s).triggerEvt = s.triggerEvt := rfl
@[simp] theorem advanceHead_fgPhase : (advanceHead s).fgPhase = s.fgPhase := rfl
@[simp] theorem advanceHead_modeSnap : (advanceHead s).modeSnap = s.modeSnap := rfl
@[simp] theorem advanceHead_trigSnap : (advanceHead s).trigSnap = s.trigSnap := rfl
@[simp] theorem advanceHead_popped : (advanceHead s).popped = s.popped := rfl
@[simp] theorem advanceHead_snap : (advanceHead s).snap = s.snap := rfl
@[simp] theorem advanceHead_res : (advanceHead s).res = s.res := rfl
@[simp] theorem advanceHead_devTrace : (advanceHead s).devTrace = s.devTrace := rfl
@[simp] theorem advanceHead_params : (advanceHead s).params = s.params := rfl
@[simp] theorem advanceHead_resets : (advanceHead s).resets = s.resets := rfl
@[simp] theorem advanceHead_schedule : (advanceHead s).schedule = s.schedule := rfl

/-! ### advanceTail -/

@[simp] theorem advanceTail_storage : (advanceTail s).storage = s.storage := rfl
@[simp] theorem advanceTail_head : (advanceTail s).head = s.head := rfl
@[simp] theorem advanceTail_tail : (advanceTail s).tail = adv s.params s.tail := rfl
@[simp] theorem advanceTail_overflowFlag : (advanceTail s).overflowFlag = s.overflowFlag := rfl
@[simp] theorem advanceTail_autoModeFlag : (advanceTail s).autoModeFlag = s.autoModeFlag := rfl
@[simp] theorem advanceTail_lastReceivedByte : (advanceTail s).lastReceivedByte = s.lastReceivedByte := rfl
@[simp] theorem advanceTail_ie : (advanceTail s).ie = s.ie := rfl
@[simp] theorem advanceTail_level : (advanceTail s).level = s.level := rfl
@[simp] theorem advanceTail_pend : (advanceTail s).pend = s.pend := rfl
@[simp] theorem advanceTail_txIrqArmed : (advanceTail s).txIrqArmed = s.txIrqArmed := rfl
@[simp] theorem advanceTail_toggleEvt : (advanceTail s).toggleEvt = s.toggleEvt := rfl
@[simp] theorem advanceTail_triggerEvt : (advanceTail s).triggerEvt = s.triggerEvt := rfl
@[simp] theorem advanceTail_fgPhase : (advanceTail s).fgPhase = s.fgPhase := rfl
@[simp] theorem advanceTail_modeSnap : (advanceTail s).modeSnap = s.modeSnap := rfl
@[simp] theorem advanceTail_trigSnap : (advanceTail s).trigSnap = s.trigSnap := rfl
@[simp] theorem advanceTail_popped : (advanceTail s).popped = s.popped := rfl
@[simp] theorem advanceTail_snap : (advanceTail s).snap = s.snap := rfl
@[simp] theorem advanceTail_res : (advanceTail s).res = s.res := rfl
@[simp] theorem advanceTail_devTrace : (advanceTail s).devTrace = s.devTrace := rfl
@[simp] theorem advanceTail_params : (advanceTail s).params = s.params := rfl
@[simp] theorem advanceTail_resets : (advanceTail s).resets = s.resets := rfl
@[simp] theorem advanceTail_schedule : (advanceTail s).schedule = s.schedule := rfl

/-! ### setPend -/

@[simp] theorem setPend_storage (c : Cause) (v : Bool) : (setPend c v s).storage = s.storage := rfl
@[simp] theorem setPend_head (c : Cause) (v : Bool) : (setPend c v s).head = s.head := rfl
@[simp] theorem setPend_tail (c : Cause) (v : Bool) : (setPend c v s).tail = s.tail := rfl
@[simp] theorem setPend_overflowFlag (c : Cause) (v : Bool) : (setPend c v s).overflowFlag = s.overflowFlag := rfl
@[simp] theorem setPend_autoModeFlag (c : Cause) (v : Bool) : (setPend c v s).autoModeFlag = s.autoModeFlag := rfl
@[simp] theorem setPend_lastReceivedByte (c : Cause) (v : Bool) : (setPend c v s).lastReceivedByte = s.lastReceivedByte := rfl
@[simp] theorem setPend_ie (c : Cause) (v : Bool) : (setPend c v s).ie = s.ie := rfl
@[simp] theorem setPend_level (c : Cause) (v : Bool) : (setPend c v s).level = s.level := rfl
@[simp] theorem setPend_pend (c : Cause) (v : Bool) : (setPend c v s).pend = s.pend.set v c := rfl
@[simp] theorem setPend_txIrqArmed (c : Cause) (v : Bool) : (setPend c v s).txIrqArmed = s.txIrqArmed := rfl
@[simp] theorem setPend_toggleEvt (c : Cause) (v : Bool) : (setPend c v s).toggleEvt = s.toggleEvt := rfl
@[simp] theorem setPend_triggerEvt (c : Cause) (v : Bool) : (setPend c v s).triggerEvt = s.triggerEvt := rfl
@[simp] theorem setPend_fgPhase (c : Cause) (v : Bool) : (setPend c v s).fgPhase = s.fgPhase := rfl
@[simp] theorem setPend_modeSnap (c : Cause) (v : Bool) : (setPend c v s).modeSnap = s.modeSnap := rfl
@[simp] theorem setPend_trigSnap (c : Cause) (v : Bool) : (setPend c v s).trigSnap = s.trigSnap := rfl
@[simp] theorem setPend_popped (c : Cause) (v : Bool) : (setPend c v s).popped = s.popped := rfl
@[simp] theorem setPend_snap (c : Cause) (v : Bool) : (setPend c v s).snap = s.snap := rfl
@[simp] theorem setPend_res (c : Cause) (v : Bool) : (setPend c v s).res = s.res := rfl
@[simp] theorem setPend_devTrace (c : Cause) (v : Bool) : (setPend c v s).devTrace = s.devTrace := rfl
@[simp] theorem setPend_params (c : Cause) (v : Bool) : (setPend c v s).params = s.params := rfl
@[simp] theorem setPend_resets (c : Cause) (v : Bool) : (setPend c v s).resets = s.resets := rfl
@[simp] theorem setPend_schedule (c : Cause) (v : Bool) : (setPend c v s).schedule = s.schedule := rfl

/-! ### record -/

@[simp] theorem record_storage (call : DevCall) : (record call s).storage = s.storage := rfl
@[simp] theorem record_head (call : DevCall) : (record call s).head = s.head := rfl
@[simp] theorem record_tail (call : DevCall) : (record call s).tail = s.tail := rfl
@[simp] theorem record_overflowFlag (call : DevCall) : (record call s).overflowFlag = s.overflowFlag := rfl
@[simp] theorem record_autoModeFlag (call : DevCall) : (record call s).autoModeFlag = s.autoModeFlag := rfl
@[simp] theorem record_lastReceivedByte (call : DevCall) : (record call s).lastReceivedByte = s.lastReceivedByte := rfl
@[simp] theorem record_ie (call : DevCall) : (record call s).ie = s.ie := rfl
@[simp] theorem record_level (call : DevCall) : (record call s).level = s.level := rfl
@[simp] theorem record_pend (call : DevCall) : (record call s).pend = s.pend := rfl
@[simp] theorem record_txIrqArmed (call : DevCall) : (record call s).txIrqArmed = s.txIrqArmed := rfl
@[simp] theorem record_toggleEvt (call : DevCall) : (record call s).toggleEvt = s.toggleEvt := rfl
@[simp] theorem record_triggerEvt (call : DevCall) : (record call s).triggerEvt = s.triggerEvt := rfl
@[simp] theorem record_fgPhase (call : DevCall) : (record call s).fgPhase = s.fgPhase := rfl
@[simp] theorem record_modeSnap (call : DevCall) : (record call s).modeSnap = s.modeSnap := rfl
@[simp] theorem record_trigSnap (call : DevCall) : (record call s).trigSnap = s.trigSnap := rfl
@[simp] theorem record_popped (call : DevCall) : (record call s).popped = s.popped := rfl
@[simp] theorem record_snap (call : DevCall) : (record call s).snap = s.snap := rfl
@[simp] theorem record_res (call : DevCall) : (record call s).res = s.res := rfl
@[simp] theorem record_devTrace (call : DevCall) : (record call s).devTrace = s.devTrace ++ [call] := rfl
@[simp] theorem record_params (call : DevCall) : (record call s).params = s.params := rfl
@[simp] theorem record_resets (call : DevCall) : (record call s).resets = s.resets := rfl
@[simp] theorem record_schedule (call : DevCall) : (record call s).schedule = s.schedule := rfl

/-! ### receiveByte -/

@[simp] theorem receiveByte_storage (d : Byte) : (receiveByte d s).storage = s.storage := rfl
@[simp] theorem receiveByte_head (d : Byte) : (receiveByte d s).head = s.head := rfl
@[simp] theorem receiveByte_tail (d : Byte) : (receiveByte d s).tail = s.tail := rfl
@[simp] theorem receiveByte_overflowFlag (d : Byte) : (receiveByte d s).overflowFlag = s.overflowFlag := rfl
@[simp] theorem receiveByte_autoModeFlag (d : Byte) : (receiveByte d s).autoModeFlag = s.autoModeFlag := rfl
@[simp] theorem receiveByte_lastReceivedByte (d : Byte) : (receiveByte d s).lastReceivedByte = s.lastReceivedByte := rfl
@[simp] theorem receiveByte_ie (d : Byte) : (receiveByte d s).ie = s.ie := rfl
@[simp] theorem receiveByte_level (d : Byte) : (receiveByte d s).level = s.level := rfl
@[simp] theorem receiveByte_pend (d : Byte) : (receiveByte d s).pend = s.pend.set false .br := rfl
@[simp] theorem receiveByte_txIrqArmed (d : Byte) : (receiveByte d s).txIrqArmed = s.txIrqArmed := rfl
@[simp] theorem receiveByte_toggleEvt (d : Byte) : (receiveByte d s).toggleEvt = s.toggleEvt := rfl
@[simp] theorem receiveByte_triggerEvt (d : Byte) : (receiveByte d s).triggerEvt = s.triggerEvt := rfl
@[simp] theorem receiveByte_fgPhase (d : Byte) : (receiveByte d s).fgPhase = s.fgPhase := rfl
@[simp] theorem receiveByte_modeSnap (d : Byte) : (receiveByte d s).modeSnap = s.modeSnap := rfl
@[simp] theorem receiveByte_trigSnap (d : Byte) : (receiveByte d s).trigSnap = s.trigSnap := rfl
@[simp] theorem receiveByte_popped (d : Byte) : (receiveByte d s).popped = s.popped := rfl
@[simp] theorem receiveByte_snap (d : Byte) : (receiveByte d s).snap = s.snap := rfl
@[simp] theorem receiveByte_res (d : Byte) : (receiveByte d s).res = s.res := rfl
@[simp] theorem receiveByte_devTrace (d : Byte) : (receiveByte d s).devTrace = s.devTrace ++ [.rx d] := rfl
@[simp] theorem receiveByte_params (d : Byte) : (receiveByte d s).params = s.params := rfl
@[simp] theorem receiveByte_resets (d : Byte) : (receiveByte d s).resets = s.resets := rfl
@[simp] theorem receiveByte_schedule (d : Byte) : (receiveByte d s).schedule = s.schedule := rfl

/-! ### transmitByte -/

@[simp] theorem transmitByte_storage (b : Byte) : (transmitByte b s).storage = s.storage := rfl
@[simp] theorem transmitByte_head (b : Byte) : (transmitByte b s).head = s.head := rfl
@[simp] theorem transmitByte_tail (b : Byte) : (transmitByte b s).tail = s.tail := rfl
@[simp] theorem transmitByte_overflowFlag (b : Byte) : (transmitByte b s).overflowFlag = s.overflowFlag := rfl
@[simp] theorem transmitByte_autoModeFlag (b : Byte) : (transmitByte b s).autoModeFlag = s.autoModeFlag := rfl
@[simp] theorem transmitByte_lastReceivedByte (b : Byte) : (transmitByte b s).lastReceivedByte = s.lastReceivedByte := rfl
@[simp] theorem transmitByte_ie (b : Byte) : (transmitByte b s).ie = s.ie := rfl
@[simp] theorem transmitByte_level (b : Byte) : (transmitByte b s).level = s.level := rfl
@[simp] theorem transmitByte_pend (b : Byte) : (transmitByte b s).pend = s.pend.set false .tr := rfl
@[simp] theorem transmitByte_txIrqArmed (b : Byte) : (transmitByte b s).txIrqArmed = true := rfl
@[simp] theorem transmitByte_toggleEvt (b : Byte) : (transmitByte b s).toggleEvt = s.toggleEvt := rfl
@[simp] theorem transmitByte_triggerEvt (b : Byte) : (transmitByte b s).triggerEvt = s.triggerEvt := rfl
@[simp] theorem transmitByte_fgPhase (b : Byte) : (transmitByte b s).fgPhase = s.fgPhase := rfl
@[simp] theorem transmitByte_modeSnap (b : Byte) : (transmitByte b s).modeSnap = s.modeSnap := rfl
@[simp] theorem transmitByte_trigSnap (b : Byte) : (transmitByte b s).trigSnap = s.trigSnap := rfl
@[simp] theorem transmitByte_popped (b : Byte) : (transmitByte b s).popped = s.popped := rfl
@[simp] theorem transmitByte_snap (b : Byte) : (transmitByte b s).snap = s.snap := rfl
@[simp] theorem transmitByte_res (b : Byte) : (transmitByte b s).res = s.res := rfl
@[simp] theorem transmitByte_devTrace (b : Byte) : (transmitByte b s).devTrace = s.devTrace ++ [.tx b] := rfl
@[simp] theorem transmitByte_params (b : Byte) : (transmitByte b s).params = s.params := rfl
@[simp] theorem transmitByte_resets (b : Byte) : (transmitByte b s).resets = s.resets := rfl
@[simp] theorem transmitByte_schedule (b : Byte) : (transmitByte b s).schedule = s.schedule := rfl

/-! ### disarmTransmit -/

@[simp] theorem disarmTransmit_storage : (disarmTransmit s).storage = s.storage := rfl
@[simp] theorem disarmTransmit_head : (disarmTransmit s).head = s.head := rfl
@[simp] theorem disarmTransmit_tail : (disarmTransmit s).tail = s.tail := rfl
@[simp] theorem disarmTransmit_overflowFlag : (disarmTransmit s).overflowFlag = s.overflowFlag := rfl
@[simp] theorem disarmTransmit_autoModeFlag : (disarmTransmit s).autoModeFlag = s.autoModeFlag := rfl
@[simp] theorem disarmTransmit_lastReceivedByte : (disarmTransmit s).lastReceivedByte = s.lastReceivedByte := rfl
@[simp] theorem disarmTransmit_ie : (disarmTransmit s).ie = s.ie := rfl
@[simp] theorem disarmTransmit_level : (disarmTransmit s).level = s.level := rfl
@[simp] theorem disarmTransmit_pend : (disarmTransmit s).pend = s.pend.set false .tr := rfl
@[simp] theorem disarmTransmit_txIrqArmed : (disarmTransmit s).txIrqArmed = false := rfl
@[simp] theorem disarmTransmit_toggleEvt : (disarmTransmit s).toggleEvt = s.toggleEvt := rfl
@[simp] theorem disarmTransmit_triggerEvt : (disarmTransmit s).triggerEvt = s.triggerEvt := rfl
@[simp] theorem disarmTransmit_fgPhase : (disarmTransmit s).fgPhase = s.fgPhase := rfl
@[simp] theorem disarmTransmit_modeSnap : (disarmTransmit s).modeSnap = s.modeSnap := rfl
@[simp] theorem disarmTransmit_trigSnap : (disarmTransmit s).trigSnap = s.trigSnap := rfl
@[simp] theorem disarmTransmit_popped : (disarmTransmit s).popped = s.popped := rfl
@[simp] theorem disarmTransmit_snap : (disarmTransmit s).snap = s.snap := rfl
@[simp] theorem disarmTransmit_res : (disarmTransmit s).res = s.res := rfl
@[simp] theorem disarmTransmit_devTrace : (disarmTransmit s).devTrace = s.devTrace ++ [.disarm] := rfl
@[simp] theorem disarmTransmit_params : (disarmTransmit s).params = s.params := rfl
@[simp] theorem disarmTransmit_resets : (disarmTransmit s).resets = s.resets := rfl
@[simp] theorem disarmTransmit_schedule : (disarmTransmit s).schedule = s.schedule := rfl

/-! ### ackLineStatus -/

@[simp] theorem ackLineStatus_storage : (ackLineStatus s).storage = s.storage := rfl
@[simp] theorem ackLineStatus_head : (ackLineStatus s).head = s.head := rfl
@[simp] theorem ackLineStatus_tail : (ackLineStatus s).tail = s.tail := rfl
@[simp] theorem ackLineStatus_overflowFlag : (ackLineStatus s).overflowFlag = s.overflowFlag := rfl
@[simp] theorem ackLineStatus_autoModeFlag : (ackLineStatus s).autoModeFlag = s.autoModeFlag := rfl
@[simp] theorem ackLineStatus_lastReceivedByte : (ackLineStatus s).lastReceivedByte = s.lastReceivedByte := rfl
@[simp] theorem ackLineStatus_ie : (ackLineStatus s).ie = s.ie := rfl
@[simp] theorem ackLineStatus_level : (ackLineStatus s).level = s.level := rfl
@[simp] theorem ackLineStatus_pend : (ackLineStatus s).pend = s.pend.set false .ls := rfl
@[simp] theorem ackLineStatus_txIrqArmed : (ackLineStatus s).txIrqArmed = s.txIrqArmed := rfl
@[simp] theorem ackLineStatus_toggleEvt : (ackLineStatus s).toggleEvt = s.toggleEvt := rfl
@[simp] theorem ackLineStatus_triggerEvt : (ackLineStatus s).triggerEvt = s.triggerEvt := rfl
@[simp] theorem ackLineStatus_fgPhase : (ackLineStatus s).fgPhase = s.fgPhase := rfl
@[simp] theorem ackLineStatus_modeSnap : (ackLineStatus s).modeSnap = s.modeSnap := rfl
@[simp] theorem ackLineStatus_trigSnap : (ackLineStatus s).trigSnap = s.trigSnap := rfl
@[simp] theorem ackLineStatus_popped : (ackLineStatus s).popped = s.popped := rfl
@[simp] theorem ackLineStatus_snap : (ackLineStatus s).snap = s.snap := rfl
@[simp] theorem ackLineStatus_res : (ackLineStatus s).res = s.res := rfl
@[simp] theorem ackLineStatus_devTrace : (ackLineStatus s).devTrace = s.devTrace ++ [.ackLS] := rfl
@[simp] theorem ackLineStatus_params : (ackLineStatus s).params = s.params := rfl
@[simp] theorem ackLineStatus_resets : (ackLineStatus s).resets = s.resets := rfl
@[simp] theorem ackLineStatus_schedule : (ackLineStatus s).schedule = s.schedule := rfl

/-! ### ackReceiveError -/

@[simp] theorem ackReceiveError_storage : (ackReceiveError s).storage = s.storage := rfl
@[simp] theorem ackReceiveError_head : (ackReceiveError s).head = s.head := rfl
@[simp] theorem ackReceiveError_tail : (ackReceiveError s).tail = s.tail := rfl
@[simp] theorem ackReceiveError_overflowFlag : (ackReceiveError s).overflowFlag = s.overflowFlag := rfl
@[simp] theorem ackReceiveError_autoModeFlag : (ackReceiveError s).autoModeFlag = s.autoModeFlag := rfl
@[simp] theorem ackReceiveError_lastReceivedByte : (ackReceiveError s).lastReceivedByte = s.lastReceivedByte := rfl
@[simp] theorem ackReceiveError_ie : (ackReceiveError s).ie = s.ie := rfl
@[simp] theorem ackReceiveError_level : (ackReceiveError s).level = s.level := rfl
@[simp] theorem ackReceiveError_pend : (ackReceiveError s).pend = s.pend.set false .re := rfl
@[simp] theorem ackReceiveError_txIrqArmed : (ackReceiveError s).txIrqArmed = s.txIrqArmed := rfl
@[simp] theorem ackReceiveError_toggleEvt : (ackReceiveError s).toggleEvt = s.toggleEvt := rfl
@[simp] theorem ackReceiveError_triggerEvt : (ackReceiveError s).triggerEvt = s.triggerEvt := rfl
@[simp] theorem ackReceiveError_fgPhase : (ackReceiveError s).fgPhase = s.fgPhase := rfl
@[simp] theorem ackReceiveError_modeSnap : (ackReceiveError s).modeSnap = s.modeSnap := rfl
@[simp] theorem ackReceiveError_trigSnap : (ackReceiveError s).trigSnap = s.trigSnap := rfl
@[simp] theorem ackReceiveError_popped : (ackReceiveError s).popped = s.popped := rfl
@[simp] theorem ackReceiveError_snap : (ackReceiveError s).snap = s.snap := rfl
@[simp] theorem ackReceiveError_res : (ackReceiveError s).res = s.res := rfl
@[simp] theorem ackReceiveError_devTrace : (ackReceiveError s).devTrace = s.devTrace ++ [.ackRE] := rfl
@[simp] theorem ackReceiveError_params : (ackReceiveError s).params = s.params := rfl
@[simp] theorem ackReceiveError_resets : (ackReceiveError s).resets = s.resets := rfl
@[simp] theorem ackReceiveError_schedule : (ackReceiveError s).schedule = s.schedule := rfl

/-! ### enterHandler -/

@[simp] theorem enterHandler_storage : (enterHandler s).storage = s.storage := rfl
@[simp] theorem enterHandler_head : (enterHandler s).head = s.head := rfl
@[simp] theorem enterHandler_tail : (enterHandler s).tail = s.tail := rfl
@[simp] theorem enterHandler_overflowFlag : (enterHandler s).overflowFlag = s.overflowFlag := rfl
@[simp] theorem enterHandler_autoModeFlag : (enterHandler s).autoModeFlag = s.autoModeFlag := rfl
@[simp] theorem enterHandler_lastReceivedByte : (enterHandler s).lastReceivedByte = s.lastReceivedByte := rfl
@[simp] theorem enterHandler_ie : (enterHandler s).ie = false := rfl
@[simp] theorem enterHandler_level : (enterHandler s).level = .int := rfl
@[simp] theorem enterHandler_pend : (enterHandler s).pend = s.pend := rfl
@[simp] theorem enterHandler_txIrqArmed : (enterHandler s).txIrqArmed = s.txIrqArmed := rfl
@[simp] theorem enterHandler_toggleEvt : (enterHandler s).toggleEvt = s.toggleEvt := rfl
@[simp] theorem enterHandler_triggerEvt : (enterHandler s).triggerEvt = s.triggerEvt := rfl
@[simp] theorem enterHandler_fgPhase : (enterHandler s).fgPhase = s.fgPhase := rfl
@[simp] theorem enterHandler_modeSnap : (enterHandler s).modeSnap = s.modeSnap := rfl
@[simp] theorem enterHandler_trigSnap : (enterHandler s).trigSnap = s.trigSnap := rfl
@[simp] theorem enterHandler_popped : (enterHandler s).popped = s.popped := rfl
@[simp] theorem enterHandler_snap : (enterHandler s).snap = s.snap := rfl
@[simp] theorem enterHandler_res : (enterHandler s).res = s.res := rfl
@[simp] theorem enterHandler_devTrace : (enterHandler s).devTrace = s.devTrace := rfl
@[simp] theorem enterHandler_params : (enterHandler s).params = s.params := rfl
@[simp] theorem enterHandler_resets : (enterHandler s).resets = s.resets := rfl
@[simp] theorem enterHandler_schedule : (enterHandler s).schedule = s.schedule := rfl

/-! ### leaveHandler -/

@[simp] theorem leaveHandler_storage : (leaveHandler s).storage = s.storage := rfl
@[simp] theorem leaveHandler_head : (leaveHandler s).head = s.head := rfl
@[simp] theorem leaveHandler_tail : (leaveHandler s).tail = s.tail := rfl
@[simp] theorem leaveHandler_overflowFlag : (leaveHandler s).overflowFlag = s.overflowFlag := rfl
@[simp] theorem leaveHandler_autoModeFlag : (leaveHandler s).autoModeFlag = s.autoModeFlag := rfl
@[simp] theorem leaveHandler_lastReceivedByte : (leaveHandler s).lastReceivedByte = s.lastReceivedByte := rfl
@[simp] theorem leaveHandler_ie : (leaveHandler s).ie = true := rfl
@[simp] theorem leaveHandler_level : (leaveHandler s).level = .fg := rfl
@[simp] theorem leaveHandler_pend : (leaveHandler s).pend = s.pend := rfl
@[simp] theorem leaveHandler_txIrqArmed : (leaveHandler s).txIrqArmed = s.txIrqArmed := rfl
@[simp] theorem leaveHandler_toggleEvt : (leaveHandler s).toggleEvt = s.toggleEvt := rfl
@[simp] theorem leaveHandler_triggerEvt : (leaveHandler s).triggerEvt = s.triggerEvt := rfl
@[simp] theorem leaveHandler_fgPhase : (leaveHandler s).fgPhase = s.fgPhase := rfl
@[simp] theorem leaveHandler_modeSnap : (leaveHandler s).modeSnap = s.modeSnap := rfl
@[simp] theorem leaveHandler_trigSnap : (leaveHandler s).trigSnap = s.trigSnap := rfl
@[simp] theorem leaveHandler_popped : (leaveHandler s).popped = s.popped := rfl
@[simp] theorem leaveHandler_snap : (leaveHandler s).snap = s.snap := rfl
@[simp] theorem leaveHandler_res : (leaveHandler s).res = s.res := rfl
@[simp] theorem leaveHandler_devTrace : (leaveHandler s).devTrace = s.devTrace := rfl
@[simp] theorem leaveHandler_params : (leaveHandler s).params = s.params := rfl
@[simp] theorem leaveHandler_resets : (leaveHandler s).resets = s.resets := rfl
@[simp] theorem leaveHandler_schedule : (leaveHandler s).schedule = s.schedule := rfl

/-! ### disableDelivery -/

@[simp] theorem disableDelivery_storage : (disableDelivery s).storage = s.storage := rfl
@[simp] theorem disableDelivery_head : (disableDelivery s).head = s.head := rfl
@[simp] theorem disableDelivery_tail : (disableDelivery s).tail = s.tail := rfl
@[simp] theorem disableDelivery_overflowFlag : (disableDelivery s).overflowFlag = s.overflowFlag := rfl
@[simp] theorem disableDelivery_autoModeFlag : (disableDelivery s).autoModeFlag = s.autoModeFlag := rfl
@[simp] theorem disableDelivery_lastReceivedByte : (disableDelivery s).lastReceivedByte = s.lastReceivedByte := rfl
@[simp] theorem disableDelivery_ie : (disableDelivery s).ie = false := rfl
@[simp] theorem disableDelivery_level : (disableDelivery s).level = s.level := rfl
@[simp] theorem disableDelivery_pend : (disableDelivery s).pend = s.pend := rfl
@[simp] theorem disableDelivery_txIrqArmed : (disableDelivery s).txIrqArmed = s.txIrqArmed := rfl
@[simp] theorem disableDelivery_toggleEvt : (disableDelivery s).toggleEvt = s.toggleEvt := rfl
@[simp] theorem disableDelivery_triggerEvt : (disableDelivery s).triggerEvt = s.triggerEvt := rfl
@[simp] theorem disableDelivery_fgPhase : (disableDelivery s).fgPhase = s.fgPhase := rfl
@[simp] theorem disableDelivery_modeSnap : (disableDelivery s).modeSnap = s.modeSnap := rfl
@[simp] theorem disableDelivery_trigSnap : (disableDelivery s).trigSnap = s.trigSnap := rfl
@[simp] theorem disableDelivery_popped : (disableDelivery s).popped = s.popped := rfl
@[simp] theorem disableDelivery_snap : (disableDelivery s).snap = s.snap := rfl
@[simp] theorem disableDelivery_res : (disableDelivery s).res = s.res := rfl
@[simp] theorem disableDelivery_devTrace : (disableDelivery s).devTrace = s.devTrace := rfl
@[simp] theorem disableDelivery_params : (disableDelivery s).params = s.params := rfl
@[simp] theorem disableDelivery_resets : (disableDelivery s).resets = s.resets := rfl
@[simp] theorem disableDelivery_schedule : (disableDelivery s).schedule = s.schedule := rfl

/-! ### enableDelivery -/

@[simp] theorem enableDelivery_storage : (enableDelivery s).storage = s.storage := rfl
@[simp] theorem enableDelivery_head : (enableDelivery s).head = s.head := rfl
@[simp] theorem enableDelivery_tail : (enableDelivery s).tail = s.tail := rfl
@[simp] theorem enableDelivery_overflowFlag : (enableDelivery s).overflowFlag = s.overflowFlag := rfl
@[simp] theorem enableDelivery_autoModeFlag : (enableDelivery s).autoModeFlag = s.autoModeFlag := rfl
@[simp] theorem enableDelivery_lastReceivedByte : (enableDelivery s).lastReceivedByte = s.lastReceivedByte := rfl
@[simp] theorem enableDelivery_ie : (enableDelivery s).ie = true := rfl
@[simp] theorem enableDelivery_level : (enableDelivery s).level = s.level := rfl
@[simp] theorem enableDelivery_pend : (enableDelivery s).pend = s.pend := rfl
@[simp] theorem enableDelivery_txIrqArmed : (enableDelivery s).txIrqArmed = s.txIrqArmed := rfl
@[simp] theorem enableDelivery_toggleEvt : (enableDelivery s).toggleEvt = s.toggleEvt := rfl
@[simp] theorem enableDelivery_triggerEvt : (enableDelivery s).triggerEvt = s.triggerEvt := rfl
@[simp] theorem enableDelivery_fgPhase : (enableDelivery s).fgPhase = s.fgPhase := rfl
@[simp] theorem enableDelivery_modeSnap : (enableDelivery s).modeSnap = s.modeSnap := rfl
@[simp] theorem enableDelivery_trigSnap : (enableDelivery s).trigSnap = s.trigSnap := rfl
@[simp] theorem enableDelivery_popped : (enableDelivery s).popped = s.popped := rfl
@[simp] theorem enableDelivery_snap : (enableDelivery s).snap = s.snap := rfl
@[simp] theorem enableDelivery_res : (enableDelivery s).res = s.res := rfl
@[simp] theorem enableDelivery_devTrace : (enableDelivery s).devTrace = s.devTrace := rfl
@[simp] theorem enableDelivery_params : (enableDelivery s).params = s.params := rfl
@[simp] theorem enableDelivery_resets : (enableDelivery s).resets = s.resets := rfl
@[simp] theorem enableDelivery_schedule : (enableDelivery s).schedule = s.schedule := rfl

/-! ### flipMode -/

@[simp] theorem flipMode_storage : (flipMode s).storage = s.storage := rfl
@[simp] theorem flipMode_head : (flipMode s).head = s.head := rfl
@[simp] theorem flipMode_tail : (flipMode s).tail = s.tail := rfl
@[simp] theorem flipMode_overflowFlag : (flipMode s).overflowFlag = s.overflowFlag := rfl
@[simp] theorem flipMode_autoModeFlag : (flipMode s).autoModeFlag = !s.autoModeFlag := rfl
@[simp] theorem flipMode_lastReceivedByte : (flipMode s).lastReceivedByte = s.lastReceivedByte := rfl
@[simp] theorem flipMode_ie : (flipMode s).ie = s.ie := rfl
@[simp] theorem flipMode_level : (flipMode s).level = s.level := rfl
@[simp] theorem flipMode_pend : (flipMode s).pend = s.pend := rfl
@[simp] theorem flipMode_txIrqArmed : (flipMode s).txIrqArmed = s.txIrqArmed := rfl
@[simp] theorem flipMode_toggleEvt : (flipMode s).toggleEvt = s.toggleEvt := rfl
@[simp] theorem flipMode_triggerEvt : (flipMode s).triggerEvt = s.triggerEvt := rfl
@[simp] theorem flipMode_fgPhase : (flipMode s).fgPhase = s.fgPhase := rfl
@[simp] theorem flipMode_modeSnap : (flipMode s).modeSnap = s.modeSnap := rfl
@[simp] theorem flipMode_trigSnap : (flipMode s).trigSnap = s.trigSnap := rfl
@[simp] theorem flipMode_popped : (flipMode s).popped = s.popped := rfl
@[simp] theorem flipMode_snap : (flipMode s).snap = s.snap := rfl
@[simp] theorem flipMode_res : (flipMode s).res = s.res := rfl
@[simp] theorem flipMode_devTrace : (flipMode s).devTrace = s.devTrace := rfl
@[simp] theorem flipMode_params : (flipMode s).params = s.params := rfl
@[simp] theorem flipMode_resets : (flipMode s).resets = s.resets := rfl
@[simp] theorem flipMode_schedule : (flipMode s).schedule = s.schedule := rfl

/-! ### present -/

@[simp] theorem present_storage : (present s).storage = s.storage := rfl
@[simp] theorem present_head : (present s).head = s.head := rfl
@[simp] theorem present_tail : (present s).tail = s.tail := rfl
@[simp] theorem present_overflowFlag : (present s).overflowFlag = s.overflowFlag := rfl
@[simp] theorem present_autoModeFlag : (present s).autoModeFlag = s.autoModeFlag := rfl
@[simp] theorem present_lastReceivedByte : (present s).lastReceivedByte = s.lastReceivedByte := rfl
@[simp] theorem present_ie : (present s).ie = s.ie := rfl
@[simp] theorem present_level : (present s).level = s.level := rfl
@[simp] theorem present_pend : (present s).pend = s.pend := rfl
@[simp] theorem present_txIrqArmed : (present s).txIrqArmed = s.txIrqArmed := rfl
@[simp] theorem present_toggleEvt : (present s).toggleEvt = s.toggleEvt := rfl
@[simp] theorem present_triggerEvt : (present s).triggerEvt = s.triggerEvt := rfl
@[simp] theorem present_fgPhase : (present s).fgPhase = s.fgPhase := rfl
@[simp] theorem present_modeSnap : (present s).modeSnap = s.modeSnap := rfl
@[simp] theorem present_trigSnap : (present s).trigSnap = s.trigSnap := rfl
@[simp] theorem present_popped : (present s).popped = s.popped := rfl
@[simp] theorem present_snap : (present s).snap = snapshotOf s := rfl
@[simp] theorem present_res : (present s).res = s.res := rfl
@[simp] theorem present_devTrace : (present s).devTrace = s.devTrace := rfl
@[simp] theorem present_params : (present s).params = s.params := rfl
@[simp] theorem present_resets : (present s).resets = s.resets := rfl
@[simp] theorem present_schedule : (present s).schedule = s.schedule := rfl

/-! ### latchKey -/

@[simp] theorem latchKey_storage (k : Key) : (latchKey k s).storage = s.storage := by cases k <;> simp [latchKey]
@[simp] theorem latchKey_head (k : Key) : (latchKey k s).head = s.head := by cases k <;> simp [latchKey]
@[simp] theorem latchKey_tail (k : Key) : (latchKey k s).tail = s.tail := by cases k <;> simp [latchKey]
@[simp] theorem latchKey_overflowFlag (k : Key) : (latchKey k s).overflowFlag = s.overflowFlag := by cases k <;> simp [latchKey]
@[simp] theorem latchKey_autoModeFlag (k : Key) : (latchKey k s).autoModeFlag = s.autoModeFlag := by cases k <;> simp [latchKey]
@[simp] theorem latchKey_lastReceivedByte (k : Key) : (latchKey k s).lastReceivedByte = s.lastReceivedByte := by cases k <;> simp [latchKey]
@[simp] theorem latchKey_ie (k : Key) : (latchKey k s).ie = s.ie := by cases k <;> simp [latchKey]
@[simp] theorem latchKey_level (k : Key) : (latchKey k s).level = s.level := by cases k <;> simp [latchKey]
@[simp] theorem latchKey_pend (k : Key) : (latchKey k s).pend = s.pend := by cases k <;> simp [latchKey]
@[simp] theorem latchKey_txIrqArmed (k : Key) : (latchKey k s).txIrqArmed = s.txIrqArmed := by cases k <;> simp [latchKey]
@[simp] theorem latchKey_toggleEvt (k : Key) : (latchKey k s).toggleEvt = (s.toggleEvt || k == .toggle) := by cases k <;> simp [latchKey]
@[simp] theorem latchKey_triggerEvt (k : Key) : (latchKey k s).triggerEvt = (s.triggerEvt || k == .trigger) := by cases k <;> simp [latchKey]
@[simp] theorem latchKey_fgPhase (k : Key) : (latchKey k s).fgPhase = s.fgPhase := by cases k <;> simp [latchKey]
@[simp] theorem latchKey_modeSnap (k : Key) : (latchKey k s).modeSnap = s.modeSnap := by cases k <;> simp [latchKey]
@[simp] theorem latchKey_trigSnap (k : Key) : (latchKey k s).trigSnap = s.trigSnap := by cases k <;> simp [latchKey]
@[simp] theorem latchKey_popped (k : Key) : (latchKey k s).popped = s.popped := by cases k <;> simp [latchKey]
@[simp] theorem latchKey_snap (k : Key) : (latchKey k s).snap = s.snap := by cases k <;> simp [latchKey]
@[simp] theorem latchKey_res (k : Key) : (latchKey k s).res = s.res := by cases k <;> simp [latchKey]
@[simp] theorem latchKey_devTrace (k : Key) : (latchKey k s).devTrace = s.devTrace := by cases k <;> simp [latchKey]
@[simp] theorem latchKey_params (k : Key) : (latchKey k s).params = s.params := by cases k <;> simp [latchKey]
@[simp] theorem latchKey_resets (k : Key) : (latchKey k s).resets = s.resets := by cases k <;> simp [latchKey]
@[simp] theorem latchKey_schedule (k : Key) : (latchKey k s).schedule = s.schedule := by cases k <;> simp [latchKey]

/-! ### phaseInput -/

@[simp] theorem phaseInput_storage : (phaseInput s).storage = s.storage := by unfold phaseInput; split <;> simp_all
@[simp] theorem phaseInput_head : (phaseInput s).head = s.head := by unfold phaseInput; split <;> simp_all
@[simp] theorem phaseInput_tail : (phaseInput s).tail = s.tail := by unfold phaseInput; split <;> simp_all
@[simp] theorem phaseInput_overflowFlag : (phaseInput s).overflowFlag = s.overflowFlag := by unfold phaseInput; split <;> simp_all
@[simp] theorem phaseInput_autoModeFlag : (phaseInput s).autoModeFlag = (s.toggleEvt ^^ s.autoModeFlag) := by unfold phaseInput; split <;> simp_all
@[simp] theorem phaseInput_lastReceivedByte : (phaseInput s).lastReceivedByte = s.lastReceivedByte := by unfold phaseInput; split <;> simp_all
@[simp] theorem phaseInput_ie : (phaseInput s).ie = s.ie := by unfold phaseInput; split <;> simp_all
@[simp] theorem phaseInput_level : (phaseInput s).level = s.level := by unfold phaseInput; split <;> simp_all
@[simp] theorem phaseInput_pend : (phaseInput s).pend = s.pend := by unfold phaseInput; split <;> simp_all
@[simp] theorem phaseInput_txIrqArmed : (phaseInput s).txIrqArmed = s.txIrqArmed := by unfold phaseInput; split <;> simp_all
@[simp] theorem phaseInput_toggleEvt : (phaseInput s).toggleEvt = false := by unfold phaseInput; split <;> simp_all
@[simp] theorem phaseInput_triggerEvt : (phaseInput s).triggerEvt = s.triggerEvt := by unfold phaseInput; split <;> simp_all
@[simp] theorem phaseInput_fgPhase : (phaseInput s).fgPhase = .snap := by unfold phaseInput; split <;> simp_all
@[simp] theorem phaseInput_modeSnap : (phaseInput s).modeSnap = s.modeSnap := by unfold phaseInput; split <;> simp_all
@[simp] theorem phaseInput_trigSnap : (phaseInput s).trigSnap = s.trigSnap := by unfold phaseInput; split <;> simp_all
@[simp] theorem phaseInput_popped : (phaseInput s).popped = s.popped := by unfold phaseInput; split <;> simp_all
@[simp] theorem phaseInput_snap : (phaseInput s).snap = s.snap := by unfold phaseInput; split <;> simp_all
@[simp] theorem phaseInput_res : (phaseInput s).res = s.res := by unfold phaseInput; split <;> simp_all
@[simp] theorem phaseInput_devTrace : (phaseInput s).devTrace = s.devTrace := by unfold phaseInput; split <;> simp_all
@[simp] theorem phaseInput_params : (phaseInput s).params = s.params := by unfold phaseInput; split <;> simp_all
@[simp] theorem phaseInput_resets : (phaseInput s).resets = s.resets := by unfold phaseInput; split <;> simp_all
@[simp] theorem phaseInput_schedule : (phaseInput s).schedule = s.schedule := by unfold phaseInput; split <;> simp_all

/-! ### phaseSnap -/

@[simp] theorem phaseSnap_storage : (phaseSnap s).storage = s.storage := rfl
@[simp] theorem phaseSnap_head : (phaseSnap s).head = s.head := rfl
@[simp] theorem phaseSnap_tail : (phaseSnap s).tail = s.tail := rfl
@[simp] theorem phaseSnap_overflowFlag : (phaseSnap s).overflowFlag = s.overflowFlag := rfl
@[simp] theorem phaseSnap_autoModeFlag : (phaseSnap s).autoModeFlag = s.autoModeFlag := rfl
@[simp] theorem phaseSnap_lastReceivedByte : (phaseSnap s).lastReceivedByte = s.lastReceivedByte := rfl
@[simp] theorem phaseSnap_ie : (phaseSnap s).ie = s.ie := rfl
@[simp] theorem phaseSnap_level : (phaseSnap s).level = s.level := rfl
@[simp] theorem phaseSnap_pend : (phaseSnap s).pend = s.pend := rfl
@[simp] theorem phaseSnap_txIrqArmed : (phaseSnap s).txIrqArmed = s.txIrqArmed := rfl
@[simp] theorem phaseSnap_toggleEvt : (phaseSnap s).toggleEvt = s.toggleEvt := rfl
@[simp] theorem phaseSnap_triggerEvt : (phaseSnap s).triggerEvt = false := rfl
@[simp] theorem phaseSnap_fgPhase : (phaseSnap s).fgPhase = if s.autoModeFlag || s.triggerEvt then .pop else .present := rfl
@[simp] theorem phaseSnap_modeSnap : (phaseSnap s).modeSnap = s.autoModeFlag := rfl
@[simp] theorem phaseSnap_trigSnap : (phaseSnap s).trigSnap = s.triggerEvt := rfl
@[simp] theorem phaseSnap_popped : (phaseSnap s).popped = s.popped := rfl
@[simp] theorem phaseSnap_snap : (phaseSnap s).snap = s.snap := rfl
@[simp] theorem phaseSnap_res : (phaseSnap s).res = s.res := rfl
@[simp] theorem phaseSnap_devTrace : (phaseSnap s).devTrace = s.devTrace := rfl
@[simp] theorem phaseSnap_params : (phaseSnap s).params = s.params := rfl
@[simp] theorem phaseSnap_resets : (phaseSnap s).resets = s.resets := rfl
@[simp] theorem phaseSnap_schedule : (phaseSnap s).schedule = s.schedule := rfl

/-! ### phasePresent -/

@[simp] theorem phasePresent_storage : (phasePresent s).storage = s.storage := rfl
@[simp] theorem phasePresent_head : (phasePresent s).head = s.head := rfl
@[simp] theorem phasePresent_tail : (phasePresent s).tail = s.tail := rfl
@[simp] theorem phasePresent_overflowFlag : (phasePresent s).overflowFlag = s.overflowFlag := rfl
@[simp] theorem phasePresent_autoModeFlag : (phasePresent s).autoModeFlag = s.autoModeFlag := rfl
@[simp] theorem phasePresent_lastReceivedByte : (phasePresent s).lastReceivedByte = s.lastReceivedByte := rfl
@[simp] theorem phasePresent_ie : (phasePresent s).ie = s.ie := rfl
@[simp] theorem phasePresent_level : (phasePresent s).level = s.level := rfl
@[simp] theorem phasePresent_pend : (phasePresent s).pend = s.pend := rfl
@[simp] theorem phasePresent_txIrqArmed : (phasePresent s).txIrqArmed = s.txIrqArmed := rfl
@[simp] theorem phasePresent_toggleEvt : (phasePresent s).toggleEvt = s.toggleEvt := rfl
@[simp] theorem phasePresent_triggerEvt : (phasePresent s).triggerEvt = s.triggerEvt := rfl
@[simp] theorem phasePresent_fgPhase : (phasePresent s).fgPhase = .input := rfl
@[simp] theorem phasePresent_modeSnap : (phasePresent s).modeSnap = s.modeSnap := rfl
@[simp] theorem phasePresent_trigSnap : (phasePresent s).trigSnap = s.trigSnap := rfl
@[simp] theorem phasePresent_popped : (phasePresent s).popped = s.popped := rfl
@[simp] theorem phasePresent_snap : (phasePresent s).snap = snapshotOf s := rfl
@[simp] theorem phasePresent_res : (phasePresent s).res = s.res := rfl
@[simp] theorem phasePresent_devTrace : (phasePresent s).devTrace = s.devTrace := rfl
@[simp] theorem phasePresent_params : (phasePresent s).params = s.params := rfl
@[simp] theorem phasePresent_resets : (phasePresent s).resets = s.resets := rfl
@[simp] theorem phasePresent_schedule : (phasePresent s).schedule = s.schedule := rfl

end

end Sys2Proof.Machine
end

