-- ==== Sys2Proof/Laws/Buffer.lean ====
section
/-! SUPPORT. The two RingBuffer mutators: all that `tryPush` and `tryPop` can do, and what they do to the queue. -/

namespace Sys2Proof.Machine

/-- The state after a successful push of `b` (R90). -/
def pushed (b : Byte) (s : State) : State :=
  { s with storage := Memory.write s.head.toNat b s.storage, head := adv s.params s.head }

@[simp] theorem pushed_storage (b : Byte) (s : State) : (pushed b s).storage = Memory.write s.head.toNat b s.storage := rfl
@[simp] theorem pushed_head (b : Byte) (s : State) : (pushed b s).head = adv s.params s.head := rfl
@[simp] theorem pushed_tail (b : Byte) (s : State) : (pushed b s).tail = s.tail := rfl
@[simp] theorem pushed_overflowFlag (b : Byte) (s : State) : (pushed b s).overflowFlag = s.overflowFlag := rfl
@[simp] theorem pushed_autoModeFlag (b : Byte) (s : State) : (pushed b s).autoModeFlag = s.autoModeFlag := rfl
@[simp] theorem pushed_lastReceivedByte (b : Byte) (s : State) : (pushed b s).lastReceivedByte = s.lastReceivedByte := rfl
@[simp] theorem pushed_ie (b : Byte) (s : State) : (pushed b s).ie = s.ie := rfl
@[simp] theorem pushed_level (b : Byte) (s : State) : (pushed b s).level = s.level := rfl
@[simp] theorem pushed_pend (b : Byte) (s : State) : (pushed b s).pend = s.pend := rfl
@[simp] theorem pushed_txIrqArmed (b : Byte) (s : State) : (pushed b s).txIrqArmed = s.txIrqArmed := rfl
@[simp] theorem pushed_toggleEvt (b : Byte) (s : State) : (pushed b s).toggleEvt = s.toggleEvt := rfl
@[simp] theorem pushed_triggerEvt (b : Byte) (s : State) : (pushed b s).triggerEvt = s.triggerEvt := rfl
@[simp] theorem pushed_fgPhase (b : Byte) (s : State) : (pushed b s).fgPhase = s.fgPhase := rfl
@[simp] theorem pushed_modeSnap (b : Byte) (s : State) : (pushed b s).modeSnap = s.modeSnap := rfl
@[simp] theorem pushed_trigSnap (b : Byte) (s : State) : (pushed b s).trigSnap = s.trigSnap := rfl
@[simp] theorem pushed_popped (b : Byte) (s : State) : (pushed b s).popped = s.popped := rfl
@[simp] theorem pushed_snap (b : Byte) (s : State) : (pushed b s).snap = s.snap := rfl
@[simp] theorem pushed_res (b : Byte) (s : State) : (pushed b s).res = s.res := rfl
@[simp] theorem pushed_devTrace (b : Byte) (s : State) : (pushed b s).devTrace = s.devTrace := rfl
@[simp] theorem pushed_params (b : Byte) (s : State) : (pushed b s).params = s.params := rfl
@[simp] theorem pushed_resets (b : Byte) (s : State) : (pushed b s).resets = s.resets := rfl
@[simp] theorem pushed_schedule (b : Byte) (s : State) : (pushed b s).schedule = s.schedule := rfl

/-- All that `try_push` can answer. -/
theorem tryPush_cases {b : Byte} {s t : State} {ok : Bool} (h : tryPush b s = .ok (ok, t)) :
    (isFull s = true ∧ ok = false ∧ t = s) ∨
    (isFull s = false ∧ s.head.toNat < s.params.slots ∧ ok = true ∧ t = pushed b s) := by
  unfold tryPush memWrite at h
  by_cases hf : isFull s = true
  · rw [if_pos hf] at h
    cases h
    exact .inl ⟨hf, rfl, rfl⟩
  · rw [if_neg hf] at h
    by_cases hr : s.head.toNat < s.params.slots
    · simp only [hr, if_true] at h
      cases h
      exact .inr ⟨by simpa using hf, hr, rfl, rfl⟩
    · simp only [hr, if_false] at h
      cases h

theorem tryPush_full {b : Byte} {s : State} (hf : isFull s = true) : tryPush b s = .ok (false, s) := by
  unfold tryPush
  rw [if_pos hf]

theorem tryPush_room {b : Byte} {s : State} (hf : isFull s = false) (hr : s.head.toNat < s.params.slots) :
    tryPush b s = .ok (true, pushed b s) := by
  unfold tryPush memWrite
  simp only [hf, hr, if_true]
  rfl

/-- All that `try_pop` can answer. -/
theorem tryPop_cases {s t : State} {r : Option Byte} (h : tryPop s = .ok (r, t)) :
    (isEmpty s = true ∧ r = none ∧ t = s) ∨
    (isEmpty s = false ∧ s.tail.toNat < s.params.slots ∧ r = some (slotByte s s.tail) ∧ t = advanceTail s) := by
  unfold tryPop memRead at h
  by_cases he : isEmpty s = true
  · rw [if_pos he] at h
    cases h
    exact .inl ⟨he, rfl, rfl⟩
  · rw [if_neg he] at h
    by_cases hr : s.tail.toNat < s.params.slots
    · simp only [hr, if_true] at h
      cases h
      exact .inr ⟨by simpa using he, hr, rfl, rfl⟩
    · simp only [hr, if_false] at h
      cases h

theorem tryPop_empty {s : State} (he : isEmpty s = true) : tryPop s = .ok (none, s) := by
  unfold tryPop
  rw [if_pos he]

theorem tryPop_some {s : State} (he : isEmpty s = false) (hr : s.tail.toNat < s.params.slots) :
    tryPop s = .ok (some (slotByte s s.tail), advanceTail s) := by
  unfold tryPop memRead
  simp only [he, hr, if_true]
  rfl

/-! ## The queue -/

/-- The queue is a function of these five fields. -/
theorem queue_congr {s t : State} (h1 : t.storage = s.storage) (h2 : t.head = s.head) (h3 : t.tail = s.tail)
    (h4 : t.params = s.params) (h5 : t.resets = s.resets) : queue t = queue s := by
  unfold queue occupancy slotByte liveIndex
  rw [h1, h2, h3, h4, h5]

theorem queue_length (s : State) : (queue s).length = (occupancy s).toNat := by
  unfold queue
  rw [List.length_map, List.length_range]

theorem occupancy_lt (s : State) : (occupancy s).toNat < s.params.slots := and_mask_lt s.params _

/-- The index of a queued byte, as the two cases of the wrap. -/
theorem liveIndex_cases (s : State) (k : Nat) (ht : s.tail.toNat < s.params.slots) (hk : k < s.params.slots) :
    (s.tail.toNat + k < s.params.slots ∧ (liveIndex s k).toNat = s.tail.toNat + k) ∨
    (s.params.slots ≤ s.tail.toNat + k ∧ (liveIndex s k).toNat = s.tail.toNat + k - s.params.slots) := by
  rw [liveIndex_toNat]
  rcases Nat.lt_or_ge (s.tail.toNat + k) s.params.slots with h | h
  · exact .inl ⟨h, Nat.mod_eq_of_lt h⟩
  · exact .inr ⟨h, by rw [Nat.mod_eq_sub_mod h, Nat.mod_eq_of_lt (by omega)]⟩

theorem occupancy_pushed (b : Byte) (s : State) (hh : s.head.toNat < s.params.slots)
    (ht : s.tail.toNat < s.params.slots) (hf : isFull s = false) :
    (occupancy (pushed b s)).toNat = (occupancy s).toNat + 1 := by
  have hf' : ¬ (adv s.params s.head).toNat = s.tail.toNat := by rw [← bufferFull_iff]; simp [hf]
  have ha := adv_cases s.params s.head hh
  have ho := occupancy_cases s hh ht
  have hp := occupancy_cases (pushed b s) (adv_lt s.params s.head) ht
  simp only [pushed_head, pushed_tail, pushed_params] at hp
  omega

theorem occupancy_advanceTail (s : State) (hh : s.head.toNat < s.params.slots)
    (ht : s.tail.toNat < s.params.slots) (he : isEmpty s = false) :
    (occupancy s).toNat = (occupancy (advanceTail s)).toNat + 1 := by
  have he' : ¬ s.head.toNat = s.tail.toNat := by rw [← bufferEmpty_iff]; simp [he]
  have ha := adv_cases s.params s.tail ht
  have ho := occupancy_cases s hh ht
  have hp := occupancy_cases (advanceTail s) hh (adv_lt s.params s.tail)
  simp only [advanceTail_head, advanceTail_tail, advanceTail_params] at hp
  omega

/-- The slot a push writes is not a queued one, and is the next to become queued. -/
theorem liveIndex_ne_head (s : State) (k : Nat) (hh : s.head.toNat < s.params.slots)
    (ht : s.tail.toNat < s.params.slots) (hk : k < (occupancy s).toNat) : (liveIndex s k).toNat ≠ s.head.toNat := by
  have ho := occupancy_cases s hh ht
  have hl := liveIndex_cases s k ht (lt_trans hk (occupancy_lt s))
  omega

theorem liveIndex_occupancy (s : State) (hh : s.head.toNat < s.params.slots) (ht : s.tail.toNat < s.params.slots) :
    (liveIndex s (occupancy s).toNat).toNat = s.head.toNat := by
  have ho := occupancy_cases s hh ht
  have hl := liveIndex_cases s (occupancy s).toNat ht (occupancy_lt s)
  omega

/-- A push puts its byte at the end of the queue (R62, R97(d)). -/
theorem queue_pushed (b : Byte) (s : State) (hh : s.head.toNat < s.params.slots)
    (ht : s.tail.toNat < s.params.slots) (hf : isFull s = false) : queue (pushed b s) = queue s ++ [b] := by
  have hocc := occupancy_pushed b s hh ht hf
  have hlive : ∀ k, liveIndex (pushed b s) k = liveIndex s k := fun _ => rfl
  unfold queue
  rw [hocc, List.range_succ, List.map_append]
  congr 1
  · refine List.map_congr_left fun k hk => ?_
    rw [List.mem_range] at hk
    unfold slotByte
    rw [hlive, pushed_storage,
      read_write_other _ _ _ _ (liveIndex_ne_head s k hh ht hk), pushed_resets]
  · unfold slotByte
    simp only [List.map_cons, List.map_nil]
    rw [hlive, liveIndex_occupancy s hh ht,
      pushed_storage, read_write_same]
    rfl

theorem liveIndex_zero (s : State) (ht : s.tail.toNat < s.params.slots) : liveIndex s 0 = s.tail := by
  have h := liveIndex_cases s 0 ht (by have := s.params.two_le_slots; omega)
  rw [← BitVec.toNat_inj]
  omega

theorem liveIndex_advanceTail (s : State) (k : Nat) : liveIndex (advanceTail s) k = liveIndex s (k + 1) := by
  rw [← BitVec.toNat_inj, liveIndex_toNat, liveIndex_toNat]
  simp only [advanceTail_tail, advanceTail_params]
  rw [adv_toNat, Nat.mod_add_mod]
  congr 1
  omega

/-- A pop takes the byte at the front of the queue (R62, R97(d)). -/
theorem queue_advanceTail (s : State) (hh : s.head.toNat < s.params.slots)
    (ht : s.tail.toNat < s.params.slots) (he : isEmpty s = false) :
    queue s = slotByte s s.tail :: queue (advanceTail s) := by
  have hocc := occupancy_advanceTail s hh ht he
  unfold queue
  rw [hocc, List.range_succ_eq_map, List.map_cons, List.map_map, liveIndex_zero s ht]
  congr 1
  refine List.map_congr_left fun k _ => ?_
  simp only [Function.comp_apply, liveIndex_advanceTail]
  rfl

theorem queue_empty {s : State} (he : isEmpty s = true) : queue s = [] := by
  have h : s.head = s.tail := by simpa [isEmpty] using he
  unfold queue occupancy
  rw [h, BitVec.sub_self]
  simp

/-! ## What the mutators keep -/

/-- The part of the invariant that concerns the buffer. -/
structure BufferInv (s : State) : Prop where
  headInRange : s.head.toNat < s.params.slots
  tailInRange : s.tail.toNat < s.params.slots
  storageWf : Memory.wf s.params.slots s.storage = true
  liveWritten : ∀ k, k < (occupancy s).toNat → (Memory.read (liveIndex s k).toNat s.storage).isSome = true

theorem State.Inv.buffer {s : State} (h : s.Inv) : BufferInv s :=
  ⟨h.headInRange, h.tailInRange, h.storageWf, h.liveWritten⟩

theorem bufferInv_congr {s t : State} (h : BufferInv s) (h1 : t.storage = s.storage) (h2 : t.head = s.head)
    (h3 : t.tail = s.tail) (h4 : t.params = s.params) : BufferInv t := by
  refine ⟨h2 ▸ h4 ▸ h.headInRange, h3 ▸ h4 ▸ h.tailInRange, h1 ▸ h4 ▸ h.storageWf, ?_⟩
  have ho : occupancy t = occupancy s := by unfold occupancy; rw [h2, h3, h4]
  intro k hk
  have hl : liveIndex t k = liveIndex s k := by unfold liveIndex; rw [h3, h4]
  rw [hl, h1]
  exact h.liveWritten k (ho ▸ hk)

theorem bufferInv_pushed {b : Byte} {s : State} (h : BufferInv s) (hf : isFull s = false) : BufferInv (pushed b s) := by
  refine ⟨adv_lt s.params s.head, h.tailInRange, write_wf _ _ _ _ h.headInRange h.storageWf, ?_⟩
  intro k hk
  rw [occupancy_pushed b s h.headInRange h.tailInRange hf] at hk
  have hl : liveIndex (pushed b s) k = liveIndex s k := rfl
  rw [hl, pushed_storage]
  rcases Nat.lt_or_ge k (occupancy s).toNat with hlt | hge
  · rw [read_write_other _ _ _ _ (liveIndex_ne_head s k h.headInRange h.tailInRange hlt)]
    exact h.liveWritten k hlt
  · have : k = (occupancy s).toNat := by omega
    rw [this, liveIndex_occupancy s h.headInRange h.tailInRange, read_write_same]
    rfl

theorem bufferInv_advanceTail {s : State} (h : BufferInv s) (he : isEmpty s = false) : BufferInv (advanceTail s) := by
  refine ⟨h.headInRange, adv_lt s.params s.tail, h.storageWf, ?_⟩
  intro k hk
  have ho := occupancy_advanceTail s h.headInRange h.tailInRange he
  rw [liveIndex_advanceTail]
  exact h.liveWritten (k + 1) (by omega)

end Sys2Proof.Machine
end

