-- ==== Sys2Proof/Laws/Encoding.lean ====
section
/-! SUPPORT. The command word taken apart and put together (30_encoding R70 to R72). -/

namespace Sys2Proof

@[simp] theorem opcodeOf_wordOf (opc d : Byte) : opcodeOf (wordOf opc d) = opc := by
  unfold opcodeOf wordOf
  exact BitVec.extractLsb'_append_eq_left

@[simp] theorem operandOf_wordOf (opc d : Byte) : operandOf (wordOf opc d) = d := by
  unfold operandOf wordOf
  exact BitVec.extractLsb'_append_eq_right

theorem wordOf_opcodeOf_operandOf (w : Word) : wordOf (opcodeOf w) (operandOf w) = w := by
  unfold opcodeOf operandOf wordOf
  exact (BitVec.extractLsb'_append_extractLsb'_eq_extractLsb' (start₂ := 8) (start₁ := 0) (len₁ := 8) (len₂ := 8)
    (x := w) rfl).trans BitVec.extractLsb'_eq_self

/-- A word is fixed by its two bytes. -/
theorem word_ext {w v : Word} (h1 : opcodeOf w = opcodeOf v) (h2 : operandOf w = operandOf v) : w = v := by
  rw [← wordOf_opcodeOf_operandOf w, ← wordOf_opcodeOf_operandOf v, h1, h2]

theorem causeOfCode_code (c : Cause) : causeOfCode c.code = c := by cases c <;> rfl

theorem code_causeOfCode (c : BitVec 2) : (causeOfCode c).code = c := by revert c; decide

theorem keyOfId_id (k : Key) : keyOfId k.id = k := by cases k <;> rfl

theorem id_keyOfId (k : BitVec 1) : (keyOfId k).id = k := by revert k; decide

/-- The decoder on a word given as its two bytes. -/
theorem tableWord_word (w : Word) : tableWord 16 w.toNat = w := by
  unfold tableWord
  rw [Nat.mod_eq_of_lt w.isLt, BitVec.ofNat_toNat, BitVec.setWidth_eq]

/-- The bytewise decoder reads what the word decoder reads. -/
theorem decodeBytes_word (w : Word) (rest : List Byte) :
    decodeBytes (opcodeOf w :: operandOf w :: rest) = (decode w).toOption.map (·, rest) := by
  simp only [decodeBytes, wordOf_opcodeOf_operandOf]

theorem decodeTableWord_eq (w : Nat) : decodeTableWord 16 w = (decode (tableWord 16 w)).toOption := by
  unfold decodeTableWord
  rw [decodeBytes_word]
  cases (decode (tableWord 16 w)).toOption <;> rfl

end Sys2Proof
end

