-- ==== Sys2Proof/Laws/Exec.lean ====
section
/-! SUPPORT. What each shared operation and each instruction can do: from `exec i s` answering a next state, the cases it
can have come from. Every invariant and frame is read off these. -/

namespace Sys2Proof.Machine

theorem answer_map_next {α : Type} {e : Except Fault α} {f : α → State} {t : State}
    (h : answer (e.map f) = .next t) : ∃ a, e = .ok a ∧ t = f a := by
  cases e with
  | error r => simp [Except.map, answer] at h
  | ok a => exact ⟨a, rfl, by simpa [Except.map, answer, eq_comm] using h⟩

/-- All that taking a cause can lead to: REFUSED, or the body between entry and epilogue. -/
theorem takeInterrupt_cases {c : Cause} {body : State → Except Fault State} {s t : State}
    (h : takeInterrupt c body s = .next t) :
    (deliverable c s = false ∧ t = refuse s) ∨
    (deliverable c s = true ∧ ∃ u, body (enterHandler s) = .ok u ∧ t = leaveHandler u) := by
  unfold takeInterrupt at h
  by_cases hd : deliverable c s = true
  · rw [if_pos hd] at h
    exact .inr ⟨hd, answer_map_next h⟩
  · rw [if_neg hd] at h
    cases h
    exact .inl ⟨by simpa using hd, rfl⟩

theorem takeInterrupt_refused {c : Cause} {body : State → Except Fault State} {s : State}
    (hd : deliverable c s = false) : takeInterrupt c body s = .next (refuse s) := by
  unfold takeInterrupt
  rw [if_neg (by simp [hd])]

theorem takeInterrupt_runs {c : Cause} {body : State → Except Fault State} {s u : State}
    (hd : deliverable c s = true) (hb : body (enterHandler s) = .ok u) :
    takeInterrupt c body s = .next (leaveHandler u) := by
  unfold takeInterrupt
  rw [if_pos hd, hb]
  rfl

/-- All that the bracketed pop can answer. -/
theorem bracketedPop_cases {s t : State} {r : Option Byte} (h : bracketedPop s = .ok (r, t)) :
    (isEmpty s = true ∧ r = none ∧ t = enableDelivery s) ∨
    (isEmpty s = false ∧ s.tail.toNat < s.params.slots ∧ r = some (slotByte s s.tail) ∧
      t = enableDelivery (advanceTail s)) := by
  unfold bracketedPop at h
  cases hp : tryPop (disableDelivery s) with
  | error f => rw [hp] at h; cases h
  | ok a =>
    obtain ⟨r', u⟩ := a
    rw [hp] at h
    cases h
    rcases tryPop_cases hp with ⟨he, rfl, rfl⟩ | ⟨he, hr, rfl, rfl⟩
    · exact .inl ⟨he, rfl, rfl⟩
    · exact .inr ⟨he, hr, rfl, rfl⟩

theorem bracketedPop_empty {s : State} (he : isEmpty s = true) : bracketedPop s = .ok (none, enableDelivery s) := by
  unfold bracketedPop
  rw [tryPop_empty (s := disableDelivery s) he]
  rfl

theorem bracketedPop_some {s : State} (he : isEmpty s = false) (hr : s.tail.toNat < s.params.slots) :
    bracketedPop s = .ok (some (slotByte s s.tail), enableDelivery (advanceTail s)) := by
  unfold bracketedPop
  rw [tryPop_some (s := disableDelivery s) he hr]
  rfl

/-! ## The instructions with more than one outcome -/

theorem execPush_cases {d : Byte} {s t : State} (h : execPush d s = .next t) :
    (isFull s = true ∧ t = setRes .full 0x00 s) ∨
    (isFull s = false ∧ s.head.toNat < s.params.slots ∧ t = setRes .ok 0x00 (pushed d s)) := by
  obtain ⟨⟨ok, u⟩, hp, rfl⟩ := answer_map_next h
  rcases tryPush_cases hp with ⟨hf, rfl, rfl⟩ | ⟨hf, hr, rfl, rfl⟩
  · exact .inl ⟨hf, rfl⟩
  · exact .inr ⟨hf, hr, rfl⟩

theorem execPop_cases {s t : State} (h : execPop s = .next t) :
    (isEmpty s = true ∧ t = setRes .empty 0x00 s) ∨
    (isEmpty s = false ∧ s.tail.toNat < s.params.slots ∧ t = setRes .ok (slotByte s s.tail) (advanceTail s)) := by
  obtain ⟨⟨r, u⟩, hp, rfl⟩ := answer_map_next h
  rcases tryPop_cases hp with ⟨he, rfl, rfl⟩ | ⟨he, hr, rfl, rfl⟩
  · exact .inl ⟨he, rfl⟩
  · exact .inr ⟨he, hr, rfl⟩

/-- The state a received byte is pushed into (R101): the byte noted, its cause cleared, delivery off. -/
def received (d : Byte) (s : State) : State := { receiveByte d (enterHandler s) with lastReceivedByte := d }

@[simp] theorem received_storage (d : Byte) (s : State) : (received d s).storage = s.storage := rfl
@[simp] theorem received_head (d : Byte) (s : State) : (received d s).head = s.head := rfl
@[simp] theorem received_tail (d : Byte) (s : State) : (received d s).tail = s.tail := rfl
@[simp] theorem received_overflowFlag (d : Byte) (s : State) : (received d s).overflowFlag = s.overflowFlag := rfl
@[simp] theorem received_autoModeFlag (d : Byte) (s : State) : (received d s).autoModeFlag = s.autoModeFlag := rfl
@[simp] theorem received_lastReceivedByte (d : Byte) (s : State) : (received d s).lastReceivedByte = d := rfl
@[simp] theorem received_ie (d : Byte) (s : State) : (received d s).ie = false := rfl
@[simp] theorem received_level (d : Byte) (s : State) : (received d s).level = .int := rfl
@[simp] theorem received_pend (d : Byte) (s : State) : (received d s).pend = s.pend.set false .br := rfl
@[simp] theorem received_txIrqArmed (d : Byte) (s : State) : (received d s).txIrqArmed = s.txIrqArmed := rfl
@[simp] theorem received_toggleEvt (d : Byte) (s : State) : (received d s).toggleEvt = s.toggleEvt := rfl
@[simp] theorem received_triggerEvt (d : Byte) (s : State) : (received d s).triggerEvt = s.triggerEvt := rfl
@[simp] theorem received_fgPhase (d : Byte) (s : State) : (received d s).fgPhase = s.fgPhase := rfl
@[simp] theorem received_modeSnap (d : Byte) (s : State) : (received d s).modeSnap = s.modeSnap := rfl
@[simp] theorem received_trigSnap (d : Byte) (s : State) : (received d s).trigSnap = s.trigSnap := rfl
@[simp] theorem received_popped (d : Byte) (s : State) : (received d s).popped = s.popped := rfl
@[simp] theorem received_snap (d : Byte) (s : State) : (received d s).snap = s.snap := rfl
@[simp] theorem received_res (d : Byte) (s : State) : (received d s).res = s.res := rfl
@[simp] theorem received_devTrace (d : Byte) (s : State) : (received d s).devTrace = s.devTrace ++ [.rx d] := rfl
@[simp] theorem received_params (d : Byte) (s : State) : (received d s).params = s.params := rfl
@[simp] theorem received_resets (d : Byte) (s : State) : (received d s).resets = s.resets := rfl
@[simp] theorem received_schedule (d : Byte) (s : State) : (received d s).schedule = s.schedule := rfl

theorem execRxi_cases {d : Byte} {s t : State} (h : execRxi d s = .next t) :
    (deliverable .br s = false ∧ t = refuse s) ∨
    (deliverable .br s = true ∧ isFull s = true ∧
      t = leaveHandler (setRes .full 0x00 { received d s with overflowFlag := true })) ∨
    (deliverable .br s = true ∧ isFull s = false ∧ s.head.toNat < s.params.slots ∧
      t = leaveHandler (setRes .ok 0x00 (pushed d (received d s)))) := by
  rcases takeInterrupt_cases h with ⟨hd, rfl⟩ | ⟨hd, u, hb, rfl⟩
  · exact .inl ⟨hd, rfl⟩
  · unfold rxiBody at hb
    cases hp : tryPush d { receiveByte d (enterHandler s) with lastReceivedByte := d } with
    | error f => rw [hp] at hb; cases hb
    | ok a =>
      obtain ⟨ok, v⟩ := a
      rw [hp] at hb
      cases hb
      rcases tryPush_cases hp with ⟨hf, rfl, rfl⟩ | ⟨hf, hr, rfl, rfl⟩
      · exact .inr (.inl ⟨hd, hf, rfl⟩)
      · exact .inr (.inr ⟨hd, hf, hr, rfl⟩)

theorem execLsi_cases {s t : State} (h : execLsi s = .next t) :
    (deliverable .ls s = false ∧ t = refuse s) ∨
    (deliverable .ls s = true ∧ t = leaveHandler (setRes .ok 0x00 (ackLineStatus (enterHandler s)))) := by
  rcases takeInterrupt_cases h with ⟨hd, rfl⟩ | ⟨hd, u, hb, rfl⟩
  · exact .inl ⟨hd, rfl⟩
  · cases hb; exact .inr ⟨hd, rfl⟩

theorem execRei_cases {s t : State} (h : execRei s = .next t) :
    (deliverable .re s = false ∧ t = refuse s) ∨
    (deliverable .re s = true ∧ t = leaveHandler (setRes .ok 0x00 (ackReceiveError (enterHandler s)))) := by
  rcases takeInterrupt_cases h with ⟨hd, rfl⟩ | ⟨hd, u, hb, rfl⟩
  · exact .inl ⟨hd, rfl⟩
  · cases hb; exact .inr ⟨hd, rfl⟩

theorem execTxi_cases {s t : State} (h : execTxi s = .next t) :
    (deliverable .tr s = false ∧ t = refuse s) ∨
    (deliverable .tr s = true ∧ isEmpty s = true ∧
      t = leaveHandler (setRes .empty 0x00 (disarmTransmit (enterHandler s)))) ∨
    (deliverable .tr s = true ∧ isEmpty s = false ∧ s.tail.toNat < s.params.slots ∧
      t = leaveHandler (setRes .ok (slotByte s s.tail)
        (transmitByte (slotByte s s.tail) (advanceTail (enterHandler s))))) := by
  rcases takeInterrupt_cases h with ⟨hd, rfl⟩ | ⟨hd, u, hb, rfl⟩
  · exact .inl ⟨hd, rfl⟩
  · unfold txiBody at hb
    cases hp : tryPop (enterHandler s) with
    | error f => rw [hp] at hb; cases hb
    | ok a =>
      obtain ⟨r, v⟩ := a
      rw [hp] at hb
      cases hb
      rcases tryPop_cases hp with ⟨he, rfl, rfl⟩ | ⟨he, hr, rfl, rfl⟩
      · exact .inr (.inl ⟨hd, he, rfl⟩)
      · exact .inr (.inr ⟨hd, he, hr, rfl⟩)

theorem execDrain_cases {s t : State} (h : execDrain s = .next t) :
    (isEmpty s = true ∧ t = setRes .empty 0x00 (enableDelivery s)) ∨
    (isEmpty s = false ∧ s.tail.toNat < s.params.slots ∧
      t = setRes .ok (slotByte s s.tail) (transmitByte (slotByte s s.tail) (enableDelivery (advanceTail s)))) := by
  obtain ⟨⟨r, u⟩, hp, rfl⟩ := answer_map_next h
  rcases bracketedPop_cases hp with ⟨he, rfl, rfl⟩ | ⟨he, hr, rfl, rfl⟩
  · exact .inl ⟨he, rfl⟩
  · exact .inr ⟨he, hr, rfl⟩

theorem execIrq_cases {c : Cause} {s t : State} (h : execIrq c s = .next t) :
    (mayAssert c s = true ∧ t = setRes .ok 0x00 (setPend c true s)) ∨ (mayAssert c s = false ∧ t = refuse s) := by
  unfold execIrq at h
  by_cases hm : mayAssert c s = true
  · rw [if_pos hm] at h; cases h; exact .inl ⟨hm, rfl⟩
  · rw [if_neg hm] at h; cases h; exact .inr ⟨by simpa using hm, rfl⟩

/-- All that one foreground phase can lead to. -/
theorem execFgstep_cases {s t : State} (h : execFgstep s = .next t) :
    (s.fgPhase = .input ∧ t = setRes .ok 1 (phaseInput s)) ∨
    (s.fgPhase = .snap ∧ t = setRes .ok (phaseSnap s).fgPhase.num (phaseSnap s)) ∨
    (s.fgPhase = .pop ∧ isEmpty s = true ∧
      t = setRes .ok 4 { enableDelivery s with popped := none, fgPhase := .present }) ∨
    (s.fgPhase = .pop ∧ isEmpty s = false ∧ s.tail.toNat < s.params.slots ∧
      t = setRes .ok 3
        { enableDelivery (advanceTail s) with popped := some (slotByte s s.tail), fgPhase := .send }) ∨
    (s.fgPhase = .send ∧ ∃ b, s.popped = some b ∧
      t = setRes .ok 4 { transmitByte b s with popped := none, fgPhase := .present }) ∨
    (s.fgPhase = .present ∧ t = setRes .ok 0 (phasePresent s)) := by
  obtain ⟨u, hp, rfl⟩ := answer_map_next h
  unfold runPhase at hp
  cases hph : s.fgPhase with
  | input => rw [hph] at hp; cases hp; exact .inl ⟨rfl, rfl⟩
  | snap => rw [hph] at hp; cases hp; exact .inr (.inl ⟨rfl, rfl⟩)
  | pop =>
    rw [hph] at hp
    simp only [phasePop] at hp
    cases hb : bracketedPop s with
    | error f => rw [hb] at hp; cases hp
    | ok a =>
      obtain ⟨r, v⟩ := a
      rw [hb] at hp
      cases hp
      rcases bracketedPop_cases hb with ⟨he, rfl, rfl⟩ | ⟨he, hr, rfl, rfl⟩
      · exact .inr (.inr (.inl ⟨rfl, he, rfl⟩))
      · exact .inr (.inr (.inr (.inl ⟨rfl, he, hr, rfl⟩)))
  | send =>
    rw [hph] at hp
    simp only [phaseSend] at hp
    cases hq : s.popped with
    | none => rw [hq] at hp; cases hp
    | some b => rw [hq] at hp; cases hp; exact .inr (.inr (.inr (.inr (.inl ⟨rfl, b, rfl, rfl⟩))))
  | present => rw [hph] at hp; cases hp; exact .inr (.inr (.inr (.inr (.inr ⟨rfl, rfl⟩))))

end Sys2Proof.Machine
end

