-- ==== Sys2Proof/Laws/PerInstr.lean ====
section
/-! SUPPORT. Laws made per instruction. Family EncodedRow: the encoding of an operation carries the opcode of its row
and is accepted by the row of the opcode table with its mnemonic. -/

namespace Sys2Proof.Laws.EncodedRow

/-- The row of the table named after the operation accepts its word. -/
def Statement (i : Instr) : Prop :=
  ∃ r ∈ opcodeTable, r.mnemonic = i.mnemonic ∧ r.accepts (encode i) = true

/-- A row with a byte operand looks at the opcode byte alone. -/
theorem accepts_format_b (m : String) (opc : Byte) (d : Byte) :
    Row.accepts ⟨m, wordOf opc 0x00, 0xFF00⟩ (wordOf opc d) = true := by
  unfold Row.accepts
  rw [beq_iff_eq]
  have hb : ∀ (a b : Byte) (i : Nat), BitVec.getLsbD (wordOf a b) i = if i < 8 then b.getLsbD i else a.getLsbD (i - 8) := by
    intro a b i
    exact BitVec.getLsbD_append
  apply BitVec.eq_of_getLsbD_eq
  intro i hi
  have hmask : (0xFF00 : Word) = wordOf 0xFF 0x00 := by decide
  simp only [BitVec.getLsbD_and, hmask, hb]
  split
  · simp
  · rename_i h8
    have : (0xFF : Byte).getLsbD (i - 8) = true := by
      have h : i - 8 < 8 := by omega
      revert h
      generalize i - 8 = j
      intro h
      interval_cases j <;> rfl
    simp only [this, Bool.and_true]

theorem push (d : Byte) : Statement (.push d) := ⟨⟨"PUSH", 0x1000, 0xFF00⟩, by decide, rfl, accepts_format_b _ 0x10 d⟩
theorem pop : Statement .pop := ⟨⟨"POP", 0x1100, 0xFFFF⟩, by decide, rfl, by decide⟩
theorem empty : Statement .empty := ⟨⟨"EMPTY", 0x1200, 0xFFFF⟩, by decide, rfl, by decide⟩
theorem full : Statement .full := ⟨⟨"FULL", 0x1300, 0xFFFF⟩, by decide, rfl, by decide⟩
theorem occ : Statement .occ := ⟨⟨"OCC", 0x1400, 0xFFFF⟩, by decide, rfl, by decide⟩
theorem irq (c : Cause) : Statement (.irq c) :=
  ⟨⟨"IRQ", 0x2000, 0xFFFC⟩, by decide, rfl, by cases c <;> decide⟩
theorem rxi (d : Byte) : Statement (.rxi d) := ⟨⟨"RXI", 0x2100, 0xFF00⟩, by decide, rfl, accepts_format_b _ 0x21 d⟩
theorem lsi : Statement .lsi := ⟨⟨"LSI", 0x2200, 0xFFFF⟩, by decide, rfl, by decide⟩
theorem rei : Statement .rei := ⟨⟨"REI", 0x2300, 0xFFFF⟩, by decide, rfl, by decide⟩
theorem txi : Statement .txi := ⟨⟨"TXI", 0x3000, 0xFFFF⟩, by decide, rfl, by decide⟩
theorem drain : Statement .drain := ⟨⟨"DRAIN", 0x3100, 0xFFFF⟩, by decide, rfl, by decide⟩
theorem key (k : Key) : Statement (.key k) := ⟨⟨"KEY", 0x4000, 0xFFFE⟩, by decide, rfl, by cases k <;> decide⟩
theorem toggle : Statement .toggle := ⟨⟨"TOGGLE", 0x4100, 0xFFFF⟩, by decide, rfl, by decide⟩
theorem clrovf : Statement .clrovf := ⟨⟨"CLROVF", 0x4200, 0xFFFF⟩, by decide, rfl, by decide⟩
theorem present : Statement .present := ⟨⟨"PRESENT", 0x5000, 0xFFFF⟩, by decide, rfl, by decide⟩
theorem di : Statement .di := ⟨⟨"DI", 0x6000, 0xFFFF⟩, by decide, rfl, by decide⟩
theorem ei : Statement .ei := ⟨⟨"EI", 0x6100, 0xFFFF⟩, by decide, rfl, by decide⟩
theorem fgstep : Statement .fgstep := ⟨⟨"FGSTEP", 0x6200, 0xFFFF⟩, by decide, rfl, by decide⟩
theorem reset : Statement .reset := ⟨⟨"RESET", 0x6300, 0xFFFF⟩, by decide, rfl, by decide⟩

end Sys2Proof.Laws.EncodedRow
end

