-- ==== Sys2Proof/Tests/Slice0.lean ====
section
/-! SUPPORT. The model's own tests: the well-formedness checks refuse ill-formed terms; words written out from
30_encoding R73 decode to what they stand for; one-step vectors of 95_test_vectors; and, for each statement of
Obligations.lean with hypotheses, a state that meets them. -/

namespace Sys2Proof.Machine.Tests

/-! ## States -/

/-- The default instance of 95_test_vectors, with `2 ^ (k + 1)` slots and a given START. -/
def inst (k : Fin 8) (start : Byte) : Params := ⟨k, start, 0x00, ⟨0x00, 0xEE, 0xAA⟩⟩

/-- A state after reset but for the buffer. -/
def buffer (k : Fin 8) (m : Memory) (h t : Byte) : State :=
  { State.resetWith (inst k 0) 0 with storage := m, head := h, tail := t }

/-- The step completes and the state after it passes. -/
def passes (o : Host.Outcome State Fault Refusal) (p : State → Bool) : Bool :=
  match o with
  | .next t => p t
  | .fault _ => false
  | .refused _ => false

/-- Four slots, after reset. -/
def fresh : State := buffer 1 [] 0 0

/-- Four slots, `[11 22 33 --]`: full. -/
def full4 : State := buffer 1 [(0, 0x11), (1, 0x22), (2, 0x33)] 3 0

/-- Four slots, `[-- 22 33 --]`, `head` at MASK: two bytes queued. -/
def two4 : State := buffer 1 [(1, 0x22), (2, 0x33)] 3 1

/-- Eight slots, `storage[1] = 62`, transmit-ready armed, pending and deliverable (V31). -/
def ready8 : State :=
  { buffer 2 [(1, 0x62), (2, 0x63)] 3 1 with ie := true, txIrqArmed := true, pend := ⟨false, true, false, false⟩ }

/-- The same with the buffer empty (V32). -/
def readyEmpty : State := { ready8 with tail := 3 }

/-- Every cause pending and deliverable, three bytes queued. -/
def busy : State := { full4 with ie := true, txIrqArmed := true, pend := ⟨true, true, true, true⟩ }

/-- A byte popped and not yet sent (V55). -/
def sending : State := { buffer 1 [(0, 0xA1), (1, 0xA2)] 2 1 with fgPhase := .send, popped := some 0xA1 }

/-! ## Well-formedness refuses -/

theorem test_wf_start_outside : Params.wf (inst 1 4) = false := by decide
theorem test_wf_start_mask : Params.wf (inst 1 3) = true := by decide
theorem test_wf_ok_is_overflow : StatusEnc.wf ⟨0x01, 0x01, 0xAA⟩ = false := by decide
theorem test_wf_ok_is_auto : StatusEnc.wf ⟨0xAA, 0xEE, 0xAA⟩ = false := by decide
theorem test_wf_overflow_is_auto : StatusEnc.wf ⟨0x00, 0xEE, 0xEE⟩ = false := by decide
theorem test_wf_instance_refused : Params.wf ⟨1, 0, 0, ⟨0x00, 0xEE, 0xEE⟩⟩ = false := by decide
theorem test_wf_unlisted_opcode : Command.wf 0x7000 = false := by decide
theorem test_wf_format_z : Command.wf 0x1101 = false ∧ Command.wf 0x6201 = false := by decide
theorem test_wf_format_c : Command.wf 0x2004 = false ∧ Command.wf 0x2003 = true := by decide
theorem test_wf_format_k : Command.wf 0x4002 = false ∧ Command.wf 0x4001 = true := by decide
theorem test_wf_memory_unsorted : Memory.wf 4 [(1, 0x11), (0, 0x22)] = false := by decide
theorem test_wf_memory_repeated : Memory.wf 4 [(1, 0x11), (1, 0x22)] = false := by decide
theorem test_wf_memory_outside : Memory.wf 4 [(3, 0x11), (4, 0x22)] = false := by decide
theorem test_wf_reset_memory :
    Memory.wf State.reset.params.slots State.reset.storage = true ∧ State.reset.params.wf = true := by decide

/-! ## Decoding: words written out from R73, operand bits from R71 -/

theorem test_decode_ringbuffer :
    decode 0x1044 = .ok (.push 0x44) ∧ decode 0x10FF = .ok (.push 0xFF) ∧ decode 0x1100 = .ok .pop ∧
    decode 0x1200 = .ok .empty ∧ decode 0x1300 = .ok .full ∧ decode 0x1400 = .ok .occ := by decide

theorem test_decode_receive_path :
    decode 0x2000 = .ok (.irq .br) ∧ decode 0x2001 = .ok (.irq .tr) ∧ decode 0x2002 = .ok (.irq .ls) ∧
    decode 0x2003 = .ok (.irq .re) ∧ decode 0x21A4 = .ok (.rxi 0xA4) ∧ decode 0x2200 = .ok .lsi ∧
    decode 0x2300 = .ok .rei := by decide

theorem test_decode_drain_consumer : decode 0x3000 = .ok .txi ∧ decode 0x3100 = .ok .drain := by decide

theorem test_decode_mode_controller :
    decode 0x4000 = .ok (.key .toggle) ∧ decode 0x4001 = .ok (.key .trigger) ∧ decode 0x4100 = .ok .toggle ∧
    decode 0x4200 = .ok .clrovf := by decide

theorem test_decode_status_presenter : decode 0x5000 = .ok .present := by decide

theorem test_decode_control :
    decode 0x6000 = .ok .di ∧ decode 0x6100 = .ok .ei ∧ decode 0x6200 = .ok .fgstep ∧ decode 0x6300 = .ok .reset := by
  decide

/-- V70 to V76. -/
theorem test_decode_illegal :
    decode 0x0000 = .error .unknownOpcode ∧ decode 0x1101 = .error .operandNotZero ∧
    decode 0x2004 = .error .operandNotZero ∧ decode 0x4002 = .error .operandNotZero ∧
    decode 0x7000 = .error .unknownOpcode ∧ decode 0xFFFF = .error .unknownOpcode ∧
    decode 0x6201 = .error .operandNotZero := by decide

/-- A word in two bytes has its opcode byte first (D30). -/
theorem test_decode_bytes : decodeBytes [0x21, 0xA4, 0x60] = some (.rxi 0xA4, [0x60]) ∧ decodeBytes [0x21] = none := by
  decide

theorem test_decode_table_word : decodeTableWord 16 0x2003 = some (.irq .re) ∧ decodeTableWord 16 0x2004 = none := by
  decide

/-! ## One step on a small state: the vectors of 95_test_vectors -/

/-- V7: the byte goes to `storage[MASK]`, `head` wraps. -/
theorem test_push_wraps :
    passes (exec (.push 0x44) (buffer 1 [(0, 0x11), (1, 0x22), (2, 0x33)] 3 1))
      (fun t => t.storage == [(0, 0x11), (1, 0x22), (2, 0x33), (3, 0x44)] && t.head == 0 && t.tail == 1 &&
        t.res == ⟨.ok, 0x00⟩) = true := by decide

/-- V3. -/
theorem test_push_full :
    passes (exec (.push 0x44) full4)
      (fun t => t.storage == full4.storage && t.head == 3 && t.tail == 0 && t.res == ⟨.full, 0x00⟩ && !t.overflowFlag)
      = true := by decide

/-- V6: a zero byte is not EMPTY; `tail` wraps. -/
theorem test_pop_zero_byte :
    passes (exec .pop (buffer 1 [(3, 0x00)] 0 3)) (fun t => t.tail == 0 && t.head == 0 && t.res == ⟨.ok, 0x00⟩) = true := by
  decide

/-- V5. -/
theorem test_pop_empty :
    passes (exec .pop (buffer 1 [] 2 2)) (fun t => t.tail == 2 && t.head == 2 && t.res == ⟨.empty, 0x00⟩) = true := by
  decide

/-- V10: empty at an index other than 0. -/
theorem test_empty_at_two : passes (exec .empty (buffer 1 [] 2 2)) (fun t => t.res == ⟨.ok, 0x01⟩) = true := by decide

/-- V1. -/
theorem test_empty_not : passes (exec .empty full4) (fun t => t.res == ⟨.ok, 0x00⟩) = true := by decide

/-- V4b. -/
theorem test_full_wrapped : passes (exec .full (buffer 1 [] 0 1)) (fun t => t.res == ⟨.ok, 0x01⟩) = true := by decide

/-- V1b. -/
theorem test_full_not : passes (exec .full fresh) (fun t => t.res == ⟨.ok, 0x00⟩) = true := by decide

/-- V4. -/
theorem test_occ_wrapped : passes (exec .occ (buffer 1 [] 0 1)) (fun t => t.res == ⟨.ok, 0x03⟩) = true := by decide

/-- V9b: N = 256, the largest occupancy. -/
theorem test_occ_largest : passes (exec .occ (buffer 7 [] 255 0)) (fun t => t.res == ⟨.ok, 0xFF⟩) = true := by decide

/-- V20. -/
theorem test_irq_receive :
    passes (exec (.irq .br) fresh) (fun t => t.pend == ⟨true, false, false, false⟩ && t.res == ⟨.ok, 0x00⟩) = true := by
  decide

/-- V27. -/
theorem test_irq_transmit_unarmed :
    passes (exec (.irq .tr) fresh) (fun t => t.pend == ⟨false, false, false, false⟩ && t.res == ⟨.refused, 0x00⟩) = true := by
  decide

/-- V24: the newest byte is discarded, flagged and noted. -/
theorem test_rxi_overflow :
    passes (exec (.rxi 0x44) { full4 with ie := true, pend := ⟨true, false, false, false⟩, lastReceivedByte := 0x43 })
      (fun t => t.storage == full4.storage && t.head == 3 && t.overflowFlag && t.lastReceivedByte == 0x44 &&
        !t.pend.br && t.devTrace == [.rx 0x44] && t.ie && t.level == .fg && t.res == ⟨.full, 0x00⟩) = true := by decide

/-- V25: a successful push does not clear the sticky flag. -/
theorem test_rxi_sticky :
    passes (exec (.rxi 0x45) { two4 with ie := true, pend := ⟨true, false, false, false⟩, overflowFlag := true })
      (fun t => Memory.read 3 t.storage == some 0x45 && t.head == 0 && t.overflowFlag && t.res == ⟨.ok, 0x00⟩) = true := by
  decide

/-- V28, last steps. -/
theorem test_lsi_acknowledges :
    passes (exec .lsi { fresh with ie := true, pend := ⟨false, false, true, true⟩ })
      (fun t => t.pend == ⟨false, false, false, true⟩ && t.devTrace == [.ackLS] && t.ie && t.res == ⟨.ok, 0x00⟩) = true := by
  decide

/-- V80. -/
theorem test_lsi_refused : passes (exec .lsi fresh) (fun t => t.res == ⟨.refused, 0x00⟩ && !t.ie) = true := by decide

/-- V29. -/
theorem test_rei_acknowledges :
    passes (exec .rei { fresh with ie := true, pend := ⟨false, false, false, true⟩, lastReceivedByte := 0x12 })
      (fun t => t.pend == ⟨false, false, false, false⟩ && t.devTrace == [.ackRE] && !t.overflowFlag &&
        t.lastReceivedByte == 0x12 && t.head == 0 && t.res == ⟨.ok, 0x00⟩) = true := by decide

/-- V31. -/
theorem test_txi_transmits :
    passes (exec .txi ready8)
      (fun t => t.tail == 2 && !t.pend.tr && t.txIrqArmed && t.devTrace == [.tx 0x62] && t.ie && t.res == ⟨.ok, 0x62⟩)
      = true := by decide

/-- V32. -/
theorem test_txi_disarms :
    passes (exec .txi readyEmpty)
      (fun t => t.tail == 3 && !t.pend.tr && !t.txIrqArmed && t.devTrace == [.disarm] && t.ie && t.res == ⟨.empty, 0x00⟩)
      = true := by decide

/-- V35, from `ie == 0`: the bracket's close enables delivery (V36). -/
theorem test_drain_transmits :
    passes (exec .drain (buffer 1 [(0, 0x41), (1, 0x42), (2, 0x43)] 3 0))
      (fun t => t.tail == 1 && t.txIrqArmed && t.ie && t.devTrace == [.tx 0x41] && t.res == ⟨.ok, 0x41⟩) = true := by decide

/-- V34: no disarm from the foreground. -/
theorem test_drain_empty :
    passes (exec .drain fresh) (fun t => t.ie && t.devTrace == [] && !t.txIrqArmed && t.res == ⟨.empty, 0x00⟩) = true := by
  decide

/-- V41. -/
theorem test_key_coalesces :
    passes (exec (.key .toggle) { fresh with toggleEvt := true })
      (fun t => t.toggleEvt && !t.triggerEvt && !t.autoModeFlag && t.res == ⟨.ok, 0x00⟩) = true := by decide

/-- V43. -/
theorem test_key_trigger :
    passes (exec (.key .trigger) fresh) (fun t => t.triggerEvt && !t.toggleEvt) = true := by decide

/-- V45. -/
theorem test_toggle_keeps_overflow :
    passes (exec .toggle { fresh with overflowFlag := true })
      (fun t => t.autoModeFlag && t.overflowFlag && !t.ie && t.res == ⟨.ok, 0x01⟩) = true := by decide

/-- V47. -/
theorem test_clrovf_enables :
    passes (exec .clrovf { fresh with overflowFlag := true }) (fun t => !t.overflowFlag && t.ie && t.res == ⟨.ok, 0x00⟩)
      = true := by decide

/-- V52: overflow wins. -/
theorem test_present_overflow_wins :
    passes (exec .present { full4 with overflowFlag := true, autoModeFlag := true, lastReceivedByte := 0x44 })
      (fun t => t.snap == ⟨3, .overflow, 0x44⟩ && t.res == ⟨.ok, 0xEE⟩ && !t.ie) = true := by decide

/-- V55: a byte in flight is not counted. -/
theorem test_present_in_flight :
    passes (exec .present sending) (fun t => t.snap.occupancy == 1 && t.fgPhase == .send && t.popped == some 0xA1) = true := by
  decide

/-- V61. -/
theorem test_di : passes (exec .di busy) (fun t => !t.ie && t.pend == busy.pend && t.res == ⟨.ok, 0x00⟩) = true := by decide

/-- V60. -/
theorem test_ei : passes (exec .ei fresh) (fun t => t.ie && t.res == ⟨.ok, 0x00⟩) = true := by decide

/-- V66: a toggle latched after P_INPUT waits. -/
theorem test_fgstep_snap :
    passes (exec .fgstep { fresh with fgPhase := .snap, toggleEvt := true })
      (fun t => t.fgPhase == .present && !t.modeSnap && t.toggleEvt && t.res == ⟨.ok, 0x04⟩) = true := by decide

/-- P5 step 9: the popped byte waits in `popped`; nothing is transmitted yet. -/
theorem test_fgstep_pop :
    passes (exec .fgstep { buffer 1 [(0, 0xA1), (1, 0xA2)] 2 0 with fgPhase := .pop })
      (fun t => t.popped == some 0xA1 && t.tail == 1 && t.fgPhase == .send && t.ie && t.devTrace == [] &&
        t.res == ⟨.ok, 0x03⟩) = true := by decide

/-- V65. -/
theorem test_reset_command :
    passes (exec .reset { busy with autoModeFlag := true })
      (fun t => !t.ie && !t.autoModeFlag && t.head == 0 && t.tail == 0 && t.storage == [] && t.res == ⟨.ok, 0x00⟩) = true := by
  decide

/-- V71: an illegal command changes `res` alone. -/
theorem test_illegal_command :
    passes (runCommand 0x1101 full4)
      (fun t => t.res == ⟨.illegal, 0x00⟩ && t.head == 3 && t.tail == 0 && t.storage == full4.storage && t.devTrace == [])
      = true := by decide

/-- The presented word runs as the first command after reset (V2). -/
theorem test_step_first_command :
    passes (step (State.reset.withFetchWord 16 0x10A5))
      (fun t => t.storage == [(0, 0xA5)] && t.head == 1 && t.schedule == [] && t.res == ⟨.ok, 0x00⟩) = true := by decide

/-- V56. -/
theorem test_packed_snapshot : snapWord ⟨3, .overflow, 0x44⟩ = 0x0D44 := by decide

/-- The examples of R80: `PUSH 0x11`, `RXI 41`, `IRQ 1`, `IRQ TR` with a comment, and `KEY TRIGGERKEY`. -/
theorem test_assembler_lines :
    parseLine ['P', 'U', 'S', 'H', ' ', '0', 'x', '1', '1'] = some (.command (.push 0x11)) ∧
    parseLine ['R', 'X', 'I', ' ', '4', '1'] = some (.command (.rxi 0x41)) ∧
    parseLine ['I', 'R', 'Q', ' ', '1'] = some (.command (.irq .tr)) ∧
    parseLine ['I', 'R', 'Q', ' ', 'T', 'R', ';', 'x'] = some (.command (.irq .tr)) ∧
    parseLine ['K', 'E', 'Y', ' ', 'T', 'R', 'I', 'G', 'G', 'E', 'R', 'K', 'E', 'Y'] = some (.command (.key .trigger)) := by
  decide

/-- A lower-case mnemonic, a missing operand, an operand too many, a label: no line. -/
theorem test_assembler_refuses :
    parseLine ['p', 'o', 'p'] = none ∧ parseLine ['P', 'U', 'S', 'H'] = none ∧ parseLine ['D', 'I', ' ', '0'] = none ∧
    parseLine ['I', 'R', 'Q', ' ', '4'] = none ∧ parseLine ['L', ':', 'P', 'O', 'P'] = none := by decide

/-- V63: a triggered tick on an empty buffer is four commands. -/
theorem test_tick_triggered_empty : pseudoTick { fresh with triggerEvt := true } = [.fgstep, .fgstep, .fgstep, .fgstep] := by
  decide

/-! ## Witnesses: states that meet the hypotheses of the statements -/

theorem fresh_inv : fresh.Inv :=
  ⟨by decide, by decide, by decide, by decide, by decide, by decide, by decide, by decide⟩

theorem full4_inv : full4.Inv :=
  ⟨by decide, by decide, by decide, by decide, by decide, by decide, by decide, by decide⟩

theorem busy_inv : busy.Inv :=
  ⟨by decide, by decide, by decide, by decide, by decide, by decide, by decide, by decide⟩

theorem sending_inv : sending.Inv :=
  ⟨by decide, by decide, by decide, by decide, by decide, by decide, by decide, by decide⟩

/-- `StepRunsTheDecodedOperation`, `PresentedWordRunsNext`. -/
theorem witness_step :
    { fresh with schedule := [0x1044, 0x1100] }.schedule = 0x1044 :: [0x1100] ∧ decode 0x1044 = .ok (.push 0x44) ∧
    decodeTableWord 16 0x1044 = some (.push 0x44) := by decide

/-- `StepWithNothingToPerform`, both clauses, and the illegal words of `IllegalWordsChangeOnlyTheResult`. -/
theorem witness_nothing_to_perform :
    State.reset.schedule = [] ∧ { fresh with schedule := [0x2004] }.schedule = 0x2004 :: [] ∧
    (∀ i, decode 0x2004 ≠ .ok i) :=
  ⟨rfl, rfl, fun i h => by
    have e : decode 0x2004 = .error .operandNotZero := by decide
    rw [e] at h
    exact Except.noConfusion rfl rfl (heq_of_eq h)⟩

/-- `DecodeEncodeAgree`, second clause; `DecoderFollowsTheOpcodeTable`. -/
theorem witness_decode :
    decode 0x4001 = .ok (.key .trigger) ∧ (⟨"KEY", 0x4000, 0xFFFE⟩ : Row) ∈ opcodeTable ∧
    Row.accepts ⟨"KEY", 0x4000, 0xFFFE⟩ 0x4001 = true := by decide

/-- `ResetStateValues`, `RunsKeepFifoOrder`, `ResetMeetsTheInvariant`: START at both ends of its range. -/
theorem witness_instance :
    (inst 1 3).start.toNat < (inst 1 3).slots ∧ (inst 1 0).wf = true ∧ (inst 1 3).wf = true ∧ (inst 7 255).wf = true := by
  decide

/-- `IndexArithmetic`, `EmptyFullOccupancy`, `PushPopMoveTheOccupancyByOne`: `head` above, at and below `tail`, in the
smallest and the largest instance. -/
theorem witness_indices :
    (full4.head.toNat < full4.params.slots ∧ full4.tail.toNat < full4.params.slots) ∧
    ((buffer 1 [] 0 3).head.toNat < (buffer 1 [] 0 3).params.slots ∧
      (buffer 1 [] 0 3).tail.toNat < (buffer 1 [] 0 3).params.slots) ∧
    ((buffer 0 [] 1 1).head.toNat < (buffer 0 [] 1 1).params.slots ∧ (buffer 0 [] 1 1).params.slots = 2) ∧
    ((buffer 7 [] 255 0).head.toNat < (buffer 7 [] 255 0).params.slots ∧ (buffer 7 [] 255 0).params.slots = 256) := by
  decide

/-- `PushResult`, `FullBufferDiscardsTheNewestByte`: full, and not full with `head` at MASK. -/
theorem witness_push :
    ((full4.head + 1) &&& full4.params.mask = full4.tail ∧ isFull full4 = true) ∧
    ((two4.head + 1) &&& two4.params.mask ≠ two4.tail ∧ two4.head.toNat < two4.params.slots) := by decide

/-- `PopResult`, `DrainResult`: empty, and a byte at `tail`; `UnwrittenSlotGivesAFreeValue`. -/
theorem witness_pop :
    fresh.head = fresh.tail ∧
    (two4.head ≠ two4.tail ∧ two4.tail.toNat < two4.params.slots ∧ Memory.read two4.tail.toNat two4.storage = some 0x22) ∧
    ((buffer 1 [] 0 3).head ≠ (buffer 1 [] 0 3).tail ∧ (buffer 1 [] 0 3).tail.toNat < (buffer 1 [] 0 3).params.slots ∧
      Memory.read (buffer 1 [] 0 3).tail.toNat (buffer 1 [] 0 3).storage = none) := by decide

/-- `PushPopMoveTheOccupancyByOne`: both operations complete in all four cases. -/
theorem witness_push_pop :
    (∃ t, exec (.push 0x55) two4 = .next t) ∧ (∃ t, exec (.push 0x55) full4 = .next t) ∧
    (∃ t, exec .pop two4 = .next t) ∧ (∃ t, exec .pop fresh = .next t) :=
  ⟨⟨_, rfl⟩, ⟨_, rfl⟩, ⟨_, rfl⟩, ⟨_, rfl⟩⟩

/-- `UnwrittenSlotGivesAFreeValue`: all its hypotheses, those of the clauses included. -/
theorem witness_unwritten :
    let s := { busy with storage := [], fgPhase := .pop }
    s.head ≠ s.tail ∧ s.tail.toNat < s.params.slots ∧ Memory.read s.tail.toNat s.storage = none ∧ s.ie = true ∧
    s.pend.tr = true ∧ s.fgPhase = .pop := by decide

/-- `FullResult`: FULL and PUSH complete on a full buffer and on one with room. -/
theorem witness_full :
    (∃ t, exec .full full4 = .next t) ∧ (∃ u, exec (.push 0x44) full4 = .next u) ∧
    (∃ t, exec .full two4 = .next t) ∧ (∃ u, exec (.push 0x44) two4 = .next u) :=
  ⟨⟨_, rfl⟩, ⟨_, rfl⟩, ⟨_, rfl⟩, ⟨_, rfl⟩⟩

/-- `StopsOutsideTheInvariant`: an index just above MASK, for each clause; P_SEND without a byte. -/
theorem witness_outside :
    let s := { busy with head := 4, tail := 2, fgPhase := .pop }
    let u := { busy with head := 3, tail := 4, fgPhase := .pop }
    (isFull s = false ∧ s.params.slots ≤ s.head.toNat ∧ s.ie = true ∧ s.pend.br = true) ∧
    (isEmpty u = false ∧ u.params.slots ≤ u.tail.toNat ∧ u.ie = true ∧ u.pend.tr = true ∧ u.fgPhase = .pop) ∧
    ({ sending with popped := none }.fgPhase = .send ∧ { sending with popped := none }.popped = none) := by decide

/-- `IrqResult`: armed and not. -/
theorem witness_irq : busy.txIrqArmed = true ∧ fresh.txIrqArmed = false := by decide

/-- `RxiResult`: masked; not pending; deliverable and full; deliverable with room, `head` at MASK. -/
theorem witness_rxi :
    let masked := { busy with ie := false }
    let quiet := { fresh with ie := true }
    let room := { two4 with ie := true, pend := ⟨true, false, false, false⟩ }
    ¬ (masked.ie = true ∧ masked.pend.br = true) ∧ ¬ (quiet.ie = true ∧ quiet.pend.br = true) ∧
    (busy.ie = true ∧ busy.pend.br = true ∧ (busy.head + 1) &&& busy.params.mask = busy.tail) ∧
    (room.ie = true ∧ room.pend.br = true ∧ (room.head + 1) &&& room.params.mask ≠ room.tail ∧
      room.head.toNat < room.params.slots) := by decide

/-- `AcknowledgeHandlers`: deliverable and not, for both causes. -/
theorem witness_acknowledge :
    (busy.ie = true ∧ busy.pend.ls = true ∧ busy.pend.re = true) ∧ ¬ (ready8.ie = true ∧ ready8.pend.ls = true) ∧
    ¬ (ready8.ie = true ∧ ready8.pend.re = true) := by decide

/-- `TxiResult`, `NoInterruptStorm`: not deliverable, empty, and with a byte queued. -/
theorem witness_txi :
    ¬ (fresh.ie = true ∧ fresh.pend.tr = true) ∧
    (readyEmpty.ie = true ∧ readyEmpty.pend.tr = true ∧ readyEmpty.head = readyEmpty.tail) ∧
    (ready8.ie = true ∧ ready8.pend.tr = true ∧ ready8.head ≠ ready8.tail ∧ ready8.tail.toNat < ready8.params.slots ∧
      Memory.read ready8.tail.toNat ready8.storage = some 0x62) := by decide

/-- `NoInterruptStorm`: the two handlers complete. -/
theorem witness_storm :
    busy.ie = true ∧ busy.pend.tr = true ∧ busy.pend.br = true ∧ (∃ t, exec .txi busy = .next t) ∧
    (∃ t, exec .txi readyEmpty = .next t) ∧ (∃ t, exec (.rxi 0x44) busy = .next t) :=
  ⟨rfl, rfl, rfl, ⟨_, rfl⟩, ⟨_, rfl⟩, ⟨_, rfl⟩⟩

/-- `PresentResult`: the three cases. -/
theorem witness_present :
    { fresh with overflowFlag := true, autoModeFlag := true }.overflowFlag = true ∧
    ({ fresh with autoModeFlag := true }.overflowFlag = false ∧ { fresh with autoModeFlag := true }.autoModeFlag = true) ∧
    (fresh.overflowFlag = false ∧ fresh.autoModeFlag = false) := by decide

/-- `InputPhase`, `SnapPhase`, `QuietTickTransmitsNothing`: each phase with and without its event. -/
theorem witness_input_snap :
    let s := { fresh with fgPhase := .snap }
    (fresh.fgPhase = .input ∧ fresh.toggleEvt = false ∧ fresh.autoModeFlag = false ∧ fresh.triggerEvt = false) ∧
    ({ fresh with toggleEvt := true }.fgPhase = .input ∧ { fresh with toggleEvt := true }.toggleEvt = true) ∧
    (s.fgPhase = .snap ∧ s.autoModeFlag = false ∧ s.triggerEvt = false) ∧
    ({ s with triggerEvt := true }.fgPhase = .snap ∧ { s with triggerEvt := true }.triggerEvt = true) ∧
    ({ s with autoModeFlag := true }.fgPhase = .snap ∧ { s with autoModeFlag := true }.autoModeFlag = true) := by decide

/-- `PopPhase`: empty, and with a byte at `tail`. -/
theorem witness_pop_phase :
    let e := { fresh with fgPhase := .pop }
    let s := { full4 with fgPhase := .pop }
    (e.fgPhase = .pop ∧ e.head = e.tail) ∧
    (s.fgPhase = .pop ∧ s.head ≠ s.tail ∧ s.tail.toNat < s.params.slots ∧
      Memory.read s.tail.toNat s.storage = some 0x11) := by decide

/-- `DrainIsPopThenSend`, all its hypotheses. -/
theorem witness_drain_is_pop_then_send :
    State.Inv { full4 with fgPhase := .pop } ∧ { full4 with fgPhase := .pop }.fgPhase = .pop ∧
    isEmpty { full4 with fgPhase := .pop } = false :=
  ⟨⟨by decide, by decide, by decide, by decide, by decide, by decide, by decide, by decide⟩, rfl, by decide⟩

/-- `SendPhase`. -/
theorem witness_send_phase : sending.fgPhase = .send ∧ sending.popped = some 0xA1 := by decide

/-- `PresentPhase`. -/
theorem witness_present_phase :
    { full4 with fgPhase := .present }.fgPhase = .present ∧
    ∃ t, exec .present { full4 with fgPhase := .present } = .next t :=
  ⟨rfl, _, rfl⟩

/-- `TickTerminates`, `PseudoOperationsExpand`, `NoStopUnderInvariant`: at P_INPUT and in the middle of a tick; with and
without a drain to come, on an empty and a full buffer. -/
theorem witness_tick :
    (fresh.Inv ∧ fresh.fgPhase = .input ∧ (fresh.autoModeFlag ^^ fresh.toggleEvt) = false ∧ fresh.triggerEvt = false) ∧
    (full4.Inv ∧ full4.fgPhase = .input) ∧ (sending.Inv ∧ sending.fgPhase = .send) ∧
    (State.Inv { fresh with triggerEvt := true } ∧ { fresh with triggerEvt := true }.fgPhase = .input ∧
      { fresh with triggerEvt := true }.head = { fresh with triggerEvt := true }.tail) ∧
    (State.Inv { full4 with toggleEvt := true } ∧ { full4 with toggleEvt := true }.fgPhase = .input ∧
      ({ full4 with toggleEvt := true }.autoModeFlag ^^ { full4 with toggleEvt := true }.toggleEvt) = true ∧
      { full4 with toggleEvt := true }.head ≠ { full4 with toggleEvt := true }.tail) :=
  ⟨⟨fresh_inv, by decide⟩, ⟨full4_inv, by decide⟩, ⟨sending_inv, by decide⟩,
   ⟨⟨by decide, by decide, by decide, by decide, by decide, by decide, by decide, by decide⟩, by decide⟩,
   ⟨⟨by decide, by decide, by decide, by decide, by decide, by decide, by decide, by decide⟩, by decide⟩⟩

/-- `TickTerminates`, the inner clause: a shorter run of the same tick completes. -/
theorem witness_tick_inside : ∃ u, runInstrs (phases 2) fresh = .next u := ⟨_, rfl⟩

/-- The frames, `DeviceCallsOfEachOperation`, `InstanceNeverChanges`: an operation of each kind completes. -/
theorem witness_frames :
    (∃ t, exec (.push 0x55) two4 = .next t) ∧ (∃ t, exec (.rxi 0x55) busy = .next t) ∧
    (∃ t, exec .pop two4 = .next t) ∧ (∃ t, exec .txi busy = .next t) ∧ (∃ t, exec .drain busy = .next t) ∧
    (∃ t, exec .fgstep sending = .next t) ∧ (∃ t, exec .lsi busy = .next t) ∧ (∃ t, exec .rei busy = .next t) ∧
    (∃ t, exec .toggle fresh = .next t) ∧ (∃ t, exec (.irq .tr) busy = .next t) ∧
    (∃ t, step { fresh with schedule := [0x1044] } = .next t) :=
  ⟨⟨_, rfl⟩, ⟨_, rfl⟩, ⟨_, rfl⟩, ⟨_, rfl⟩, ⟨_, rfl⟩, ⟨_, rfl⟩, ⟨_, rfl⟩, ⟨_, rfl⟩, ⟨_, rfl⟩, ⟨_, rfl⟩, ⟨_, rfl⟩⟩

/-- `StatusFrame`: RXI with the sticky flag already set, on a full buffer and on one with room. -/
theorem witness_sticky :
    { busy with overflowFlag := true }.overflowFlag = true ∧
    (∃ t, exec (.rxi 0x55) { busy with overflowFlag := true } = .next t) ∧
    (∃ t, exec (.rxi 0x55) { busy with overflowFlag := true, tail := 1 } = .next t) :=
  ⟨rfl, ⟨_, rfl⟩, ⟨_, rfl⟩⟩

/-- `DeliveryFrame`: `ie` falls by DI; it rises by EI, DRAIN, CLROVF and phase P_POP. -/
theorem witness_delivery :
    passes (exec .di busy) (fun t => busy.ie && !t.ie) = true ∧ passes (exec .ei fresh) (fun t => !fresh.ie && t.ie) = true ∧
    passes (exec .drain fresh) (fun t => !fresh.ie && t.ie) = true ∧
    passes (exec .clrovf fresh) (fun t => !fresh.ie && t.ie) = true ∧
    passes (exec .fgstep { fresh with fgPhase := .pop }) (fun t => t.ie) = true := by decide

/-- `HandlersRefusedWhileMasked`, `HandlersReturnWithDeliveryOn`. -/
theorem witness_handlers :
    Instr.agent .txi = .int ∧ { busy with ie := false }.ie = false ∧ busy.level = .fg ∧ (∃ t, exec .txi busy = .next t) ∧
    (∃ t, exec .txi { busy with ie := false } = .next t) :=
  ⟨rfl, rfl, rfl, ⟨_, rfl⟩, ⟨_, rfl⟩⟩

/-- `BurstDrainsTheWholeQueue`: three bytes queued, and none. -/
theorem witness_burst :
    (busy.Inv ∧ busy.ie = true ∧ busy.txIrqArmed = true ∧ (queue busy).length = 3) ∧
    (State.Inv { fresh with ie := true, txIrqArmed := true } ∧ { fresh with ie := true, txIrqArmed := true }.ie = true ∧
      { fresh with ie := true, txIrqArmed := true }.txIrqArmed = true) :=
  ⟨⟨busy_inv, rfl, rfl, by decide⟩,
   ⟨by decide, by decide, by decide, by decide, by decide, by decide, by decide, by decide⟩, rfl, rfl⟩

/-- `TransmitOrderCanInvert`. -/
theorem witness_inversion : (inst 1 0).logN = 1 ∧ (inst 1 0).start = 0 := by decide

/-- `ModeDoesNotReachTheBuffer`. -/
theorem witness_mode :
    Instr.agent (.rxi 0x55) = .int ∧ (∃ t, exec (.rxi 0x55) busy = .next t) ∧ Instr.drain ∈ [Instr.pop, .empty, .full, .occ, .drain] ∧
    (∃ t, exec .drain busy = .next t) :=
  ⟨rfl, ⟨_, rfl⟩, by decide, ⟨_, rfl⟩⟩

/-- `DeadSlotsMakeNoDifference`: the same two queued bytes, another byte in a slot outside the queue. -/
theorem witness_dead_slots :
    let s := buffer 1 [(0, 0x11), (1, 0x22), (2, 0x33)] 3 1
    let s' := buffer 1 [(0, 0x99), (1, 0x22), (2, 0x33), (3, 0x98)] 3 1
    s.Inv ∧ s'.Inv ∧ s' = { s with storage := s'.storage } ∧ queue s' = queue s ∧ s'.storage ≠ s.storage ∧
    ∃ t, exec .pop s = .next t :=
  ⟨⟨by decide, by decide, by decide, by decide, by decide, by decide, by decide, by decide⟩,
   ⟨by decide, by decide, by decide, by decide, by decide, by decide, by decide, by decide⟩,
   rfl, by decide, by decide, _, rfl⟩

/-- `BufferIsAFifoQueue`, `StepKeepsTheInvariant`: with an operation, and with a step. -/
theorem witness_invariant :
    full4.Inv ∧ (∃ t, exec .pop full4 = .next t) ∧ (∃ t, exec .reset full4 = .next t) ∧
    State.Inv { busy with schedule := [0x3000] } ∧ (∃ t, step { busy with schedule := [0x3000] } = .next t) :=
  ⟨full4_inv, ⟨_, rfl⟩, ⟨_, rfl⟩,
   ⟨by decide, by decide, by decide, by decide, by decide, by decide, by decide, by decide⟩, ⟨_, rfl⟩⟩

end Sys2Proof.Machine.Tests
end

/-! PROOFS. Family 00_scope: what a step performs (R13, R82), and that no operation writes the parameters (R7, R181). -/

namespace Sys2Proof.Machine

/-! ## What a step performs -/

theorem step_of_schedule_nil {s : State} (hs : s.schedule = []) : step s = .next s := by
  unfold step
  rw [hs]
  rfl

theorem step_of_schedule_cons {s : State} {w : Word} {rest : List Word} (hs : s.schedule = w :: rest) :
    step s = runCommand w { s with schedule := rest } := by
  unfold step
  rw [hs]

theorem runCommand_of_decode_ok {w : Word} {i : Instr} (hw : decode w = .ok i) (s : State) :
    runCommand w s = exec i s := by
  unfold runCommand
  rw [hw]

theorem runCommand_of_decode_error {w : Word} {e : Illegal} (hw : decode w = .error e) (s : State) :
    runCommand w s = .next (illegal s) := by
  unfold runCommand
  rw [hw]

/-- All that a step can do: nothing when no command is presented, else the decoded operation or the answer to an
illegal word, with that command consumed. -/
theorem step_cases {s t : State} (h : step s = .next t) :
    (s.schedule = [] ∧ t = s) ∨
    (∃ w rest i, s.schedule = w :: rest ∧ decode w = .ok i ∧ exec i { s with schedule := rest } = .next t) ∨
    (∃ w rest e, s.schedule = w :: rest ∧ decode w = .error e ∧ t = illegal { s with schedule := rest }) := by
  cases hs : s.schedule with
  | nil =>
    rw [step_of_schedule_nil hs] at h
    cases h
    exact .inl ⟨rfl, rfl⟩
  | cons w rest =>
    rw [step_of_schedule_cons hs] at h
    cases hw : decode w with
    | ok i =>
      rw [runCommand_of_decode_ok hw] at h
      exact .inr (.inl ⟨w, rest, i, rfl, hw, h⟩)
    | error e =>
      rw [runCommand_of_decode_error hw] at h
      cases h
      exact .inr (.inr ⟨w, rest, e, rfl, hw, rfl⟩)

/-- Settles O8: the schedule's head is what `step` hands to `runCommand`, and a word that decodes runs as `exec`. -/
theorem stepRunsTheDecodedOperation : Obligations.StepRunsTheDecodedOperation := by
  unfold Obligations.StepRunsTheDecodedOperation
  intro s w rest i hs hw
  rw [step_of_schedule_cons hs, runCommand_of_decode_ok hw]

/-! ## What no operation writes -/

/-- `t` has the parameters, the commands to come and the reset count of `s`: the model's own three fields. -/
structure SameInstance (s t : State) : Prop where
  params : t.params = s.params
  schedule : t.schedule = s.schedule
  resets : t.resets = s.resets

/-- Every operation but RESET leaves the three fields alone, in each of its outcomes. -/
theorem exec_sameInstance {i : Instr} {s t : State} (h : exec i s = .next t) (hi : i ≠ .reset) :
    SameInstance s t := by
  cases i with
  | push d => rcases execPush_cases h with ⟨-, rfl⟩ | ⟨-, -, rfl⟩ <;> constructor <;> simp
  | pop => rcases execPop_cases h with ⟨-, rfl⟩ | ⟨-, -, rfl⟩ <;> constructor <;> simp
  | irq c => rcases execIrq_cases h with ⟨-, rfl⟩ | ⟨-, rfl⟩ <;> constructor <;> simp
  | rxi d => rcases execRxi_cases h with ⟨-, rfl⟩ | ⟨-, -, rfl⟩ | ⟨-, -, -, rfl⟩ <;> constructor <;> simp
  | lsi => rcases execLsi_cases h with ⟨-, rfl⟩ | ⟨-, rfl⟩ <;> constructor <;> simp
  | rei => rcases execRei_cases h with ⟨-, rfl⟩ | ⟨-, rfl⟩ <;> constructor <;> simp
  | txi => rcases execTxi_cases h with ⟨-, rfl⟩ | ⟨-, -, rfl⟩ | ⟨-, -, -, rfl⟩ <;> constructor <;> simp
  | drain => rcases execDrain_cases h with ⟨-, rfl⟩ | ⟨-, -, rfl⟩ <;> constructor <;> simp
  | fgstep =>
    rcases execFgstep_cases h with
      ⟨-, rfl⟩ | ⟨-, rfl⟩ | ⟨-, -, rfl⟩ | ⟨-, -, -, rfl⟩ | ⟨-, b, -, rfl⟩ | ⟨-, rfl⟩ <;> constructor <;> simp
  | reset => exact absurd rfl hi
  | empty | full | occ | key | toggle | clrovf | present | di | ei => cases h; constructor <;> simp

/-- RESET keeps the parameters and the commands to come, and counts itself (R145, R181). -/
theorem execReset_modelFields {s t : State} (h : execReset s = .next t) :
    t.params = s.params ∧ t.schedule = s.schedule ∧ t.resets = s.resets + 1 := by
  cases h
  exact ⟨rfl, rfl, rfl⟩

theorem exec_params_schedule {i : Instr} {s t : State} (h : exec i s = .next t) :
    t.params = s.params ∧ t.schedule = s.schedule := by
  by_cases hi : i = .reset
  · subst hi
    obtain ⟨hp, hc, -⟩ := execReset_modelFields h
    exact ⟨hp, hc⟩
  · have same := exec_sameInstance h hi
    exact ⟨same.params, same.schedule⟩

/-- A step keeps the parameters and consumes the presented command, legal or not. -/
theorem step_params_schedule {s t : State} (h : step s = .next t) :
    t.params = s.params ∧ t.schedule = s.schedule.tail := by
  rcases step_cases h with ⟨hs, rfl⟩ | ⟨w, rest, i, hs, -, he⟩ | ⟨w, rest, e, hs, -, rfl⟩
  · exact ⟨rfl, by rw [hs, List.tail_nil]⟩
  · obtain ⟨hp, hc⟩ := exec_params_schedule he
    exact ⟨hp, by rw [hc, hs, List.tail_cons]⟩
  · exact ⟨rfl, by rw [hs, illegal_schedule, List.tail_cons]⟩

/-- Settles O47, from the frame of each operation; a step adds only the consumed command. -/
theorem instanceNeverChanges : Obligations.InstanceNeverChanges := by
  unfold Obligations.InstanceNeverChanges
  refine ⟨fun i s t h => ?_, fun s t h => step_params_schedule h⟩
  obtain ⟨hp, hc⟩ := exec_params_schedule h
  exact ⟨hp, hc, fun hi => (exec_sameInstance h hi).resets⟩

end Sys2Proof.Machine

/-! PROOFS. Family 10_state: what each operation can lead to, in one relation; the frames and device calls read off it;
the buffer as a FIFO queue; the invariant of R44 and runs from reset. -/

namespace Sys2Proof.Machine

/-! ## All that an operation can lead to -/

/-- One constructor per outcome of each operation but RESET: when it occurs, and the state it leads to. -/
inductive Effect (s : State) : Instr → State → Prop
  | pushFull (d : Byte) (full : isFull s = true) : Effect s (.push d) (setRes .full 0x00 s)
  | pushRoom (d : Byte) (room : isFull s = false) (range : s.head.toNat < s.params.slots) :
      Effect s (.push d) (setRes .ok 0x00 (pushed d s))
  | popEmpty (empty : isEmpty s = true) : Effect s .pop (setRes .empty 0x00 s)
  | popByte (byte : isEmpty s = false) (range : s.tail.toNat < s.params.slots) :
      Effect s .pop (setRes .ok (slotByte s s.tail) (advanceTail s))
  | empty : Effect s .empty (setRes .ok (boolByte (isEmpty s)) s)
  | full : Effect s .full (setRes .ok (boolByte (isFull s)) s)
  | occ : Effect s .occ (setRes .ok (occupancy s) s)
  | irqAsserted (c : Cause) (may : mayAssert c s = true) : Effect s (.irq c) (setRes .ok 0x00 (setPend c true s))
  | irqRefused (c : Cause) (may : mayAssert c s = false) : Effect s (.irq c) (refuse s)
  | rxiRefused (d : Byte) (masked : deliverable .br s = false) : Effect s (.rxi d) (refuse s)
  | rxiFull (d : Byte) (taken : deliverable .br s = true) (full : isFull s = true) :
      Effect s (.rxi d) (leaveHandler (setRes .full 0x00 { received d s with overflowFlag := true }))
  | rxiRoom (d : Byte) (taken : deliverable .br s = true) (room : isFull s = false)
      (range : s.head.toNat < s.params.slots) :
      Effect s (.rxi d) (leaveHandler (setRes .ok 0x00 (pushed d (received d s))))
  | lsiRefused (masked : deliverable .ls s = false) : Effect s .lsi (refuse s)
  | lsiDone (taken : deliverable .ls s = true) :
      Effect s .lsi (leaveHandler (setRes .ok 0x00 (ackLineStatus (enterHandler s))))
  | reiRefused (masked : deliverable .re s = false) : Effect s .rei (refuse s)
  | reiDone (taken : deliverable .re s = true) :
      Effect s .rei (leaveHandler (setRes .ok 0x00 (ackReceiveError (enterHandler s))))
  | txiRefused (masked : deliverable .tr s = false) : Effect s .txi (refuse s)
  | txiEmpty (taken : deliverable .tr s = true) (empty : isEmpty s = true) :
      Effect s .txi (leaveHandler (setRes .empty 0x00 (disarmTransmit (enterHandler s))))
  | txiByte (taken : deliverable .tr s = true) (byte : isEmpty s = false) (range : s.tail.toNat < s.params.slots) :
      Effect s .txi (leaveHandler (setRes .ok (slotByte s s.tail)
        (transmitByte (slotByte s s.tail) (advanceTail (enterHandler s)))))
  | drainEmpty (empty : isEmpty s = true) : Effect s .drain (setRes .empty 0x00 (enableDelivery s))
  | drainByte (byte : isEmpty s = false) (range : s.tail.toNat < s.params.slots) :
      Effect s .drain (setRes .ok (slotByte s s.tail)
        (transmitByte (slotByte s s.tail) (enableDelivery (advanceTail s))))
  | key (k : Key) : Effect s (.key k) (setRes .ok 0x00 (latchKey k s))
  | toggle : Effect s .toggle (setRes .ok (boolByte (flipMode s).autoModeFlag) (flipMode s))
  | clrovf : Effect s .clrovf (setRes .ok 0x00 (enableDelivery { disableDelivery s with overflowFlag := false }))
  | present : Effect s .present (setRes .ok (displayByte s.params.statusEnc (snapshotOf s).status) (present s))
  | di : Effect s .di (setRes .ok 0x00 (disableDelivery s))
  | ei : Effect s .ei (setRes .ok 0x00 (enableDelivery s))
  | phaseInput (phase : s.fgPhase = .input) : Effect s .fgstep (setRes .ok 1 (phaseInput s))
  | phaseSnap (phase : s.fgPhase = .snap) :
      Effect s .fgstep (setRes .ok (phaseSnap s).fgPhase.num (phaseSnap s))
  | phasePopEmpty (phase : s.fgPhase = .pop) (empty : isEmpty s = true) :
      Effect s .fgstep (setRes .ok 4 { enableDelivery s with popped := none, fgPhase := .present })
  | phasePopByte (phase : s.fgPhase = .pop) (byte : isEmpty s = false) (range : s.tail.toNat < s.params.slots) :
      Effect s .fgstep (setRes .ok 3
        { enableDelivery (advanceTail s) with popped := some (slotByte s s.tail), fgPhase := .send })
  | phaseSend (b : Byte) (phase : s.fgPhase = .send) (popped : s.popped = some b) :
      Effect s .fgstep (setRes .ok 4 { transmitByte b s with popped := none, fgPhase := .present })
  | phasePresent (phase : s.fgPhase = .present) : Effect s .fgstep (setRes .ok 0 (phasePresent s))

theorem exec_effect {i : Instr} {s t : State} (h : exec i s = .next t) (hi : i ≠ .reset) : Effect s i t := by
  cases i with
  | push d =>
    rcases execPush_cases h with ⟨hf, rfl⟩ | ⟨hf, hr, rfl⟩
    · exact .pushFull d hf
    · exact .pushRoom d hf hr
  | pop =>
    rcases execPop_cases h with ⟨he, rfl⟩ | ⟨he, hr, rfl⟩
    · exact .popEmpty he
    · exact .popByte he hr
  | empty => cases h; exact .empty
  | full => cases h; exact .full
  | occ => cases h; exact .occ
  | irq c =>
    rcases execIrq_cases h with ⟨hm, rfl⟩ | ⟨hm, rfl⟩
    · exact .irqAsserted c hm
    · exact .irqRefused c hm
  | rxi d =>
    rcases execRxi_cases h with ⟨hd, rfl⟩ | ⟨hd, hf, rfl⟩ | ⟨hd, hf, hr, rfl⟩
    · exact .rxiRefused d hd
    · exact .rxiFull d hd hf
    · exact .rxiRoom d hd hf hr
  | lsi =>
    rcases execLsi_cases h with ⟨hd, rfl⟩ | ⟨hd, rfl⟩
    · exact .lsiRefused hd
    · exact .lsiDone hd
  | rei =>
    rcases execRei_cases h with ⟨hd, rfl⟩ | ⟨hd, rfl⟩
    · exact .reiRefused hd
    · exact .reiDone hd
  | txi =>
    rcases execTxi_cases h with ⟨hd, rfl⟩ | ⟨hd, he, rfl⟩ | ⟨hd, he, hr, rfl⟩
    · exact .txiRefused hd
    · exact .txiEmpty hd he
    · exact .txiByte hd he hr
  | drain =>
    rcases execDrain_cases h with ⟨he, rfl⟩ | ⟨he, hr, rfl⟩
    · exact .drainEmpty he
    · exact .drainByte he hr
  | key k => cases h; exact .key k
  | toggle => cases h; exact .toggle
  | clrovf => cases h; exact .clrovf
  | present => cases h; exact .present
  | di => cases h; exact .di
  | ei => cases h; exact .ei
  | fgstep =>
    rcases execFgstep_cases h with
      ⟨hp, rfl⟩ | ⟨hp, rfl⟩ | ⟨hp, he, rfl⟩ | ⟨hp, he, hr, rfl⟩ | ⟨hp, b, hb, rfl⟩ | ⟨hp, rfl⟩
    · exact .phaseInput hp
    · exact .phaseSnap hp
    · exact .phasePopEmpty hp he
    · exact .phasePopByte hp he hr
    · exact .phaseSend b hp hb
    · exact .phasePresent hp
  | reset => exact absurd rfl hi

/-! ## The buffer: what each operation does to the queue -/

/-- `t` holds the buffer of `s`: the five fields the queue is a function of. -/
structure SameBuffer (s t : State) : Prop where
  storage : t.storage = s.storage
  head : t.head = s.head
  tail : t.tail = s.tail
  params : t.params = s.params
  resets : t.resets = s.resets

theorem SameBuffer.queue_eq {s t : State} (b : SameBuffer s t) : queue t = queue s :=
  queue_congr b.storage b.head b.tail b.params b.resets

theorem SameBuffer.bufferInv {s t : State} (b : SameBuffer s t) (h : BufferInv s) : BufferInv t :=
  bufferInv_congr h b.storage b.head b.tail b.params

/-- What an operation does to the buffer: nothing, one push at `head`, or one pop at `tail`; and the bytes it accepted
and released by it. -/
inductive BufferEffect (i : Instr) (s t : State) : Prop
  | kept (buffer : SameBuffer s t) (accepted : acceptedBy i t = []) (released : releasedBy i s t = [])
  | push (d : Byte) (writer : i = .push d ∨ i = .rxi d) (room : isFull s = false) (buffer : SameBuffer (pushed d s) t)
      (accepted : acceptedBy i t = [d]) (released : releasedBy i s t = [])
  | pop (taker : i = .pop ∨ i = .txi ∨ i = .drain ∨ (i = .fgstep ∧ s.fgPhase = .pop)) (byte : isEmpty s = false)
      (buffer : SameBuffer (advanceTail s) t) (accepted : acceptedBy i t = [])
      (released : releasedBy i s t = [slotByte s s.tail])

theorem Effect.buffer {i : Instr} {s t : State} (e : Effect s i t) : BufferEffect i s t := by
  cases e with
  | pushRoom d room => exact .push d (.inl rfl) room ⟨rfl, rfl, rfl, rfl, rfl⟩ rfl rfl
  | rxiRoom d _ room => exact .push d (.inr rfl) room ⟨rfl, rfl, rfl, rfl, rfl⟩ rfl rfl
  | popByte byte => exact .pop (.inl rfl) byte ⟨rfl, rfl, rfl, rfl, rfl⟩ rfl rfl
  | txiByte _ byte => exact .pop (.inr (.inl rfl)) byte ⟨rfl, rfl, rfl, rfl, rfl⟩ rfl rfl
  | drainByte byte => exact .pop (.inr (.inr (.inl rfl))) byte ⟨rfl, rfl, rfl, rfl, rfl⟩ rfl rfl
  | phasePopByte phase byte =>
    exact .pop (.inr (.inr (.inr ⟨rfl, phase⟩))) byte ⟨rfl, rfl, rfl, rfl, rfl⟩ rfl (by simp [releasedBy, phase])
  | phaseInput phase | phaseSnap phase | phasePopEmpty phase | phaseSend _ phase | phasePresent phase =>
    exact .kept (by constructor <;> simp) rfl (by simp [releasedBy, phase])
  | _ => exact .kept (by constructor <;> simp) rfl rfl

/-- Settles O42, by the three things an operation can do to the buffer. -/
theorem bufferFrame : Obligations.BufferFrame := by
  unfold Obligations.BufferFrame
  intro i s t h hi
  cases (exec_effect h hi).buffer with
  | kept buffer =>
    exact ⟨fun _ _ => by rw [buffer.storage], fun _ => ⟨buffer.storage, buffer.head⟩, fun _ _ _ _ => buffer.tail⟩
  | push d writer _ buffer =>
    refine ⟨fun a ha => ?_, fun hn => ?_, fun _ _ _ _ => buffer.tail⟩
    · have hne : a ≠ s.head.toNat := (ha d).resolve_left fun ⟨hp, hr⟩ => writer.elim hp hr
      rw [buffer.storage, pushed_storage, read_write_other _ _ _ _ hne]
    · exact absurd writer (not_or.mpr (hn d))
  | pop taker _ buffer =>
    refine ⟨fun _ _ => by rw [buffer.storage]; rfl, fun _ => ⟨buffer.storage, buffer.head⟩, fun hp hx hd hf => ?_⟩
    exact absurd taker (by simp [hp, hx, hd, hf])

/-- R62, R97(d): what an operation accepts joins the end of the queue, what it releases leaves the front. -/
theorem BufferEffect.queue_eq {i : Instr} {s t : State} (e : BufferEffect i s t) (hb : BufferInv s) :
    queue s ++ acceptedBy i t = releasedBy i s t ++ queue t := by
  cases e with
  | kept buffer accepted released => rw [accepted, released, buffer.queue_eq, List.append_nil, List.nil_append]
  | push d _ room buffer accepted released =>
    rw [accepted, released, buffer.queue_eq, queue_pushed d s hb.headInRange hb.tailInRange room, List.nil_append]
  | pop _ byte buffer accepted released =>
    rw [accepted, released, buffer.queue_eq, queue_advanceTail s hb.headInRange hb.tailInRange byte]
    simp

theorem BufferEffect.bufferInv {i : Instr} {s t : State} (e : BufferEffect i s t) (hb : BufferInv s) : BufferInv t := by
  cases e with
  | kept buffer => exact buffer.bufferInv hb
  | push d _ room buffer => exact buffer.bufferInv (bufferInv_pushed hb room)
  | pop _ byte buffer => exact buffer.bufferInv (bufferInv_advanceTail hb byte)

theorem queue_resetWith (p : Params) (r : Nat) (res : Result) (commands : List Word) :
    queue { State.resetWith p r with res := res, schedule := commands } = [] :=
  queue_empty (beq_self_eq_true p.start)

theorem queue_execReset {s t : State} (h : execReset s = .next t) : queue t = [] := by
  cases h
  exact queue_resetWith s.params (s.resets + 1) ⟨.ok, 0x00⟩ s.schedule

/-- Settles O55, from what each operation does to the buffer; RESET leaves equal indices. -/
theorem bufferIsAFifoQueue : Obligations.BufferIsAFifoQueue := by
  unfold Obligations.BufferIsAFifoQueue
  intro i s t hs h
  refine ⟨fun hi => (exec_effect h hi).buffer.queue_eq hs.buffer, fun hi => ?_⟩
  subst hi
  exact queue_execReset h

/-! ## The pending bits -/

@[simp] theorem Pend.set_br (p : Pend) (v : Bool) (c : Cause) : (p.set v c).br = if c = .br then v else p.br := by
  cases c <;> rfl

@[simp] theorem Pend.set_tr (p : Pend) (v : Bool) (c : Cause) : (p.set v c).tr = if c = .tr then v else p.tr := by
  cases c <;> rfl

@[simp] theorem Pend.set_ls (p : Pend) (v : Bool) (c : Cause) : (p.set v c).ls = if c = .ls then v else p.ls := by
  cases c <;> rfl

@[simp] theorem Pend.set_re (p : Pend) (v : Bool) (c : Cause) : (p.set v c).re = if c = .re then v else p.re := by
  cases c <;> rfl

/-! ## The invariant -/

/-- R44(e): `popped` holds a byte exactly in phase P_SEND. Only FGSTEP writes either. -/
theorem Effect.poppedIffSend {i : Instr} {s t : State} (e : Effect s i t)
    (hs : s.popped.isSome = true ↔ s.fgPhase = .send) : t.popped.isSome = true ↔ t.fgPhase = .send := by
  cases e with
  | phaseInput phase => simpa [phase] using hs
  | phaseSnap phase =>
    have hp : s.popped = none := by simpa [phase] using hs
    simp only [setRes_popped, setRes_fgPhase, phaseSnap_popped, phaseSnap_fgPhase, hp]
    split <;> simp
  | phasePresent phase => simpa [phase] using hs
  | phasePopEmpty | phasePopByte | phaseSend => simp
  | _ => simpa using hs

/-- R44(f): IRQ 1 is refused while the request is not armed, and whatever disarms it clears the pending bit. -/
theorem Effect.pendingImpliesArmed {i : Instr} {s t : State} (e : Effect s i t)
    (hs : s.pend.tr = true → s.txIrqArmed = true) : t.pend.tr = true → t.txIrqArmed = true := by
  cases e with
  | irqAsserted c may =>
    cases c with
    | tr => exact fun _ => may
    | br | ls | re => exact hs
  | txiEmpty => exact fun ht => nomatch ht
  | txiByte | drainByte | phaseSend => exact fun _ => rfl
  | _ => simpa using hs

theorem Effect.levelForeground {i : Instr} {s t : State} (e : Effect s i t) (hs : s.level = .fg) : t.level = .fg := by
  cases e <;> simp [hs]

theorem State.Inv.of_parts {s : State} (hb : BufferInv s) (hp : s.popped.isSome = true ↔ s.fgPhase = .send)
    (ha : s.pend.tr = true → s.txIrqArmed = true) (hl : s.level = .fg) (hw : s.params.wf = true) : s.Inv :=
  ⟨hb.headInRange, hb.tailInRange, hb.storageWf, hb.liveWritten, hp, ha, hl, hw⟩

theorem Effect.inv {i : Instr} {s t : State} (e : Effect s i t) (hs : s.Inv) (hp : t.params = s.params) : t.Inv :=
  .of_parts (e.buffer.bufferInv hs.buffer) (e.poppedIffSend hs.poppedIffSend)
    (e.pendingImpliesArmed hs.pendingImpliesArmed) (e.levelForeground hs.levelForeground) (hp ▸ hs.instanceWf)

/-- The buffer between two equal indices needs nothing written. -/
theorem bufferInv_of_unwritten {s : State} (hst : s.storage = []) (he : s.head = s.tail)
    (hr : s.tail.toNat < s.params.slots) : BufferInv s := by
  refine ⟨he ▸ hr, hr, by rw [hst]; rfl, fun k hk => ?_⟩
  have ho : occupancy s = 0 := by simp [occupancy, he]
  simp [ho] at hk

theorem start_lt_slots {p : Params} (hp : p.wf = true) : p.start.toNat < p.slots := by
  simp only [Params.wf, Bool.and_eq_true, decide_eq_true_eq] at hp
  exact hp.1

/-- The reset values meet the invariant whatever `res` and the schedule hold. -/
theorem resetWith_inv {p : Params} (hp : p.wf = true) (r : Nat) (res : Result) (commands : List Word) :
    State.Inv { State.resetWith p r with res := res, schedule := commands } :=
  .of_parts (bufferInv_of_unwritten rfl rfl (start_lt_slots hp)) (by simp [State.resetWith])
    (fun h => nomatch h) rfl hp

/-- Settles O57: between equal indices no slot is queued, and START is in range when the parameters are well formed. -/
theorem resetMeetsTheInvariant : Obligations.ResetMeetsTheInvariant := by
  unfold Obligations.ResetMeetsTheInvariant
  intro p r commands hp
  exact resetWith_inv hp r ⟨.ok, 0x00⟩ commands

theorem exec_inv {i : Instr} {s t : State} (hs : s.Inv) (h : exec i s = .next t) : t.Inv := by
  by_cases hi : i = .reset
  · subst hi
    cases h
    exact resetWith_inv hs.instanceWf (s.resets + 1) ⟨.ok, 0x00⟩ s.schedule
  · exact (exec_effect h hi).inv hs (exec_params_schedule h).1

/-- The invariant does not read the schedule or the result. -/
theorem State.Inv.with_schedule_res {s : State} (hs : s.Inv) (commands : List Word) (res : Result) :
    State.Inv { s with schedule := commands, res := res } :=
  .of_parts (bufferInv_congr hs.buffer rfl rfl rfl rfl) hs.poppedIffSend hs.pendingImpliesArmed hs.levelForeground
    hs.instanceWf

theorem step_inv {s t : State} (hs : s.Inv) (h : step s = .next t) : t.Inv := by
  rcases step_cases h with ⟨-, rfl⟩ | ⟨w, rest, i, -, -, he⟩ | ⟨w, rest, e, -, -, rfl⟩
  · exact hs
  · exact exec_inv (hs.with_schedule_res rest s.res) he
  · exact hs.with_schedule_res rest ⟨.illegal, 0x00⟩

/-- Settles O58: a step is one operation, one illegal word or nothing, and each keeps the invariant. -/
theorem stepKeepsTheInvariant : Obligations.StepKeepsTheInvariant := by
  unfold Obligations.StepKeepsTheInvariant
  exact fun _ _ hs h => step_inv hs h

/-! ## No operation stops under the invariant -/

theorem answer_map_ok {α : Type} {x : Except Fault α} {a : α} (f : α → State) (h : x = .ok a) :
    answer (x.map f) = .next (f a) := by
  rw [h]
  rfl

theorem tryPush_completes (b : Byte) {s : State} (hr : s.head.toNat < s.params.slots) :
    ∃ a, tryPush b s = .ok a := by
  cases hf : isFull s with
  | true => exact ⟨_, tryPush_full hf⟩
  | false => exact ⟨_, tryPush_room hf hr⟩

theorem tryPop_completes {s : State} (hr : s.tail.toNat < s.params.slots) : ∃ a, tryPop s = .ok a := by
  cases he : isEmpty s with
  | true => exact ⟨_, tryPop_empty he⟩
  | false => exact ⟨_, tryPop_some he hr⟩

theorem bracketedPop_completes {s : State} (hr : s.tail.toNat < s.params.slots) : ∃ a, bracketedPop s = .ok a := by
  cases he : isEmpty s with
  | true => exact ⟨_, bracketedPop_empty he⟩
  | false => exact ⟨_, bracketedPop_some he hr⟩

theorem takeInterrupt_completes {c : Cause} {body : State → Except Fault State} {s : State}
    (hb : ∃ u, body (enterHandler s) = .ok u) : ∃ t, takeInterrupt c body s = .next t := by
  obtain ⟨u, hu⟩ := hb
  cases hd : deliverable c s with
  | true => exact ⟨_, takeInterrupt_runs hd hu⟩
  | false => exact ⟨_, takeInterrupt_refused hd⟩

theorem rxiBody_completes (d : Byte) {s : State} (hr : s.head.toNat < s.params.slots) : ∃ u, rxiBody d s = .ok u := by
  obtain ⟨a, ha⟩ := tryPush_completes d (s := { receiveByte d s with lastReceivedByte := d }) hr
  exact ⟨_, by rw [rxiBody, ha]; rfl⟩

theorem txiBody_completes {s : State} (hr : s.tail.toNat < s.params.slots) : ∃ u, txiBody s = .ok u := by
  obtain ⟨a, ha⟩ := tryPop_completes hr
  exact ⟨_, by rw [txiBody, ha]; rfl⟩

theorem runPhase_completes {s : State} (hr : s.tail.toNat < s.params.slots)
    (hp : s.popped.isSome = true ↔ s.fgPhase = .send) : ∃ u, runPhase s = .ok u := by
  unfold runPhase
  cases hph : s.fgPhase with
  | input | snap | present => exact ⟨_, rfl⟩
  | pop =>
    obtain ⟨a, ha⟩ := bracketedPop_completes hr
    exact ⟨_, by simp only [phasePop, ha]; rfl⟩
  | send =>
    obtain ⟨b, hb⟩ := Option.isSome_iff_exists.mp (hp.mpr hph)
    exact ⟨_, by simp only [phaseSend, hb]; rfl⟩

/-- R154: under the invariant every operation completes. -/
theorem exec_completes (i : Instr) {s : State} (hs : s.Inv) : ∃ t, exec i s = .next t := by
  cases i with
  | push d =>
    obtain ⟨a, ha⟩ := tryPush_completes d hs.headInRange
    exact ⟨_, answer_map_ok _ ha⟩
  | pop =>
    obtain ⟨a, ha⟩ := tryPop_completes hs.tailInRange
    exact ⟨_, answer_map_ok _ ha⟩
  | drain =>
    obtain ⟨a, ha⟩ := bracketedPop_completes hs.tailInRange
    exact ⟨_, answer_map_ok _ ha⟩
  | fgstep =>
    obtain ⟨u, hu⟩ := runPhase_completes hs.tailInRange hs.poppedIffSend
    exact ⟨_, answer_map_ok _ hu⟩
  | rxi d => exact takeInterrupt_completes (rxiBody_completes d (s := enterHandler s) hs.headInRange)
  | txi => exact takeInterrupt_completes (txiBody_completes (s := enterHandler s) hs.tailInRange)
  | lsi => exact takeInterrupt_completes ⟨_, rfl⟩
  | rei => exact takeInterrupt_completes ⟨_, rfl⟩
  | empty | full | occ | irq | key | toggle | clrovf | present | di | ei | reset => exact ⟨_, rfl⟩

theorem step_completes {s : State} (hs : s.Inv) : ∃ t, step s = .next t := by
  cases hc : s.schedule with
  | nil => exact ⟨_, step_of_schedule_nil hc⟩
  | cons w rest =>
    rw [step_of_schedule_cons hc]
    cases hw : decode w with
    | ok i =>
      rw [runCommand_of_decode_ok hw]
      exact exec_completes i (hs.with_schedule_res rest s.res)
    | error e => exact ⟨_, runCommand_of_decode_error hw _⟩

/-! ## Runs -/

/-- R44(d): the bytes released since the last reset, then the queue, are the bytes accepted since it. -/
def HistoryMatches (s : State) (h : History) : Prop := h.released ++ queue s = h.accepted

theorem History.after_of_ne_reset (h : History) {i : Instr} (hi : i ≠ .reset) (s t : State) :
    h.after i s t = ⟨h.accepted ++ acceptedBy i t, h.released ++ releasedBy i s t⟩ := by
  cases i with
  | reset => exact absurd rfl hi
  | _ => rfl

/-- What an operation releases is read from the phase, not from the schedule. -/
theorem History.after_with_schedule (h : History) (i : Instr) (s t : State) (commands : List Word) :
    h.after i { s with schedule := commands } t = h.after i s t := rfl

theorem exec_historyMatches {i : Instr} {s t : State} {h : History} (hs : s.Inv) (hm : HistoryMatches s h)
    (he : exec i s = .next t) : HistoryMatches t (h.after i s t) := by
  unfold HistoryMatches at hm ⊢
  by_cases hi : i = .reset
  · subst hi
    simp [History.after, queue_execReset he]
  · have hq := (exec_effect he hi).buffer.queue_eq hs.buffer
    rw [History.after_of_ne_reset h hi, List.append_assoc, ← hq, ← List.append_assoc, hm]

theorem step_historyMatches {s t : State} {h : History} (hs : s.Inv) (hm : HistoryMatches s h)
    (he : step s = .next t) : HistoryMatches t (h.afterStep s t) := by
  rcases step_cases he with ⟨hc, rfl⟩ | ⟨w, rest, i, hc, hw, hx⟩ | ⟨w, rest, e, hc, hw, rfl⟩
  · simpa [History.afterStep, hc] using hm
  · simp only [History.afterStep, hc, hw]
    rw [← History.after_with_schedule h i s t rest]
    exact exec_historyMatches (hs.with_schedule_res rest s.res) hm hx
  · simp only [History.afterStep, hc, hw]
    exact hm

theorem runHistory_succ {s t : State} (he : step s = .next t) (n : Nat) (h : History) :
    runHistory (n + 1) s h = runHistory n t (h.afterStep s t) := by
  simp only [runHistory, he]

theorem runHistory_matches (n : Nat) {s : State} {h : History} (hs : s.Inv) (hm : HistoryMatches s h) :
    ∃ t k, runHistory n s h = some (t, k) ∧ HistoryMatches t k := by
  induction n generalizing s h with
  | zero => exact ⟨s, h, rfl, hm⟩
  | succ n ih =>
    obtain ⟨t, ht⟩ := step_completes hs
    rw [runHistory_succ ht]
    exact ih (step_inv hs ht) (step_historyMatches hs hm ht)

/-- Settles O56, by induction on the number of steps: the reset state meets the invariant with an empty history, and
each step completes and keeps both. -/
theorem runsKeepFifoOrder : Obligations.RunsKeepFifoOrder := by
  unfold Obligations.RunsKeepFifoOrder
  intro p r n commands hp
  exact runHistory_matches n (resetWith_inv hp r ⟨.ok, 0x00⟩ commands) (queue_resetWith p r ⟨.ok, 0x00⟩ commands)

/-! ## Frames -/

section
variable {i : Instr} {s t : State}

theorem Effect.overflowFlag (e : Effect s i t) (hr : ∀ d, i ≠ .rxi d) (hc : i ≠ .clrovf) :
    t.overflowFlag = s.overflowFlag := by
  cases e with
  | rxiFull d => exact absurd rfl (hr d)
  | clrovf => exact absurd rfl hc
  | _ => simp

theorem Effect.overflowFlag_rxi {d : Byte} (e : Effect s (.rxi d) t) (hs : s.overflowFlag = true) :
    t.overflowFlag = true := by
  cases e with
  | rxiFull => rfl
  | rxiRefused | rxiRoom => simpa using hs

theorem Effect.autoModeFlag (e : Effect s i t) (ht : i ≠ .toggle) (hf : ¬ (i = .fgstep ∧ s.fgPhase = .input)) :
    t.autoModeFlag = s.autoModeFlag := by
  cases e with
  | toggle => exact absurd rfl ht
  | phaseInput phase => exact absurd ⟨rfl, phase⟩ hf
  | _ => simp

theorem Effect.lastReceivedByte (e : Effect s i t) (hr : ∀ d, i ≠ .rxi d) :
    t.lastReceivedByte = s.lastReceivedByte := by
  cases e with
  | rxiFull d | rxiRoom d => exact absurd rfl (hr d)
  | _ => simp

theorem ie_of_deliverable {c : Cause} (hd : deliverable c s = true) : s.ie = true :=
  (Bool.and_eq_true_iff.mp hd).1

/-- A handler taken found delivery on, and leaves it on; every other operation that writes `ie` is named. -/
theorem Effect.ie_cases (e : Effect s i t) :
    t.ie = s.ie ∨ (i = .di ∧ t.ie = false) ∨
    (t.ie = true ∧ (i = .ei ∨ i = .drain ∨ i = .clrovf ∨ (i = .fgstep ∧ s.fgPhase = .pop))) := by
  cases e with
  | rxiFull _ taken | rxiRoom _ taken | lsiDone taken | reiDone taken | txiEmpty taken | txiByte taken =>
    exact .inl (ie_of_deliverable taken).symm
  | di => exact .inr (.inl ⟨rfl, rfl⟩)
  | ei | drainEmpty | drainByte | clrovf => simp
  | phasePopEmpty phase | phasePopByte phase => simp [phase]
  | _ => simp

theorem Effect.pend_br (e : Effect s i t) (hq : i ≠ .irq .br) (hr : ∀ d, i ≠ .rxi d) : t.pend.br = s.pend.br := by
  cases e with
  | irqAsserted c => simp [show c ≠ .br from fun hc => hq (hc ▸ rfl)]
  | rxiFull d | rxiRoom d => exact absurd rfl (hr d)
  | _ => simp

theorem Effect.pend_ls (e : Effect s i t) (hq : i ≠ .irq .ls) (hl : i ≠ .lsi) : t.pend.ls = s.pend.ls := by
  cases e with
  | irqAsserted c => simp [show c ≠ .ls from fun hc => hq (hc ▸ rfl)]
  | lsiDone => exact absurd rfl hl
  | _ => simp

theorem Effect.pend_re (e : Effect s i t) (hq : i ≠ .irq .re) (hr : i ≠ .rei) : t.pend.re = s.pend.re := by
  cases e with
  | irqAsserted c => simp [show c ≠ .re from fun hc => hq (hc ▸ rfl)]
  | reiDone => exact absurd rfl hr
  | _ => simp

theorem Effect.txIrqArmed (e : Effect s i t) (ht : i ≠ .txi) (hd : i ≠ .drain)
    (hf : ¬ (i = .fgstep ∧ s.fgPhase = .send)) : t.txIrqArmed = s.txIrqArmed := by
  cases e with
  | txiEmpty | txiByte => exact absurd rfl ht
  | drainByte => exact absurd rfl hd
  | phaseSend _ phase => exact absurd ⟨rfl, phase⟩ hf
  | _ => simp

theorem Effect.pend_tr (e : Effect s i t) (hq : i ≠ .irq .tr) (ht : i ≠ .txi) (hd : i ≠ .drain)
    (hf : ¬ (i = .fgstep ∧ s.fgPhase = .send)) : t.pend.tr = s.pend.tr := by
  cases e with
  | irqAsserted c => simp [show c ≠ .tr from fun hc => hq (hc ▸ rfl)]
  | txiEmpty | txiByte => exact absurd rfl ht
  | drainByte => exact absurd rfl hd
  | phaseSend _ phase => exact absurd ⟨rfl, phase⟩ hf
  | _ => simp

theorem Effect.toggleEvt (e : Effect s i t) (hk : i ≠ .key .toggle) (hf : ¬ (i = .fgstep ∧ s.fgPhase = .input)) :
    t.toggleEvt = s.toggleEvt := by
  cases e with
  | key k => simp [show k ≠ .toggle from fun e => hk (e ▸ rfl)]
  | phaseInput phase => exact absurd ⟨rfl, phase⟩ hf
  | _ => simp

theorem Effect.triggerEvt (e : Effect s i t) (hk : i ≠ .key .trigger) (hf : ¬ (i = .fgstep ∧ s.fgPhase = .snap)) :
    t.triggerEvt = s.triggerEvt := by
  cases e with
  | key k => simp [show k ≠ .trigger from fun e => hk (e ▸ rfl)]
  | phaseSnap phase => exact absurd ⟨rfl, phase⟩ hf
  | _ => simp

theorem Effect.foregroundContext (e : Effect s i t) (hf : i ≠ .fgstep) :
    t.fgPhase = s.fgPhase ∧ t.modeSnap = s.modeSnap ∧ t.trigSnap = s.trigSnap ∧ t.popped = s.popped := by
  cases e with
  | phaseInput | phaseSnap | phasePopEmpty | phasePopByte | phaseSend | phasePresent => exact absurd rfl hf
  | _ => simp

theorem Effect.snap (e : Effect s i t) (hp : i ≠ .present) (hf : ¬ (i = .fgstep ∧ s.fgPhase = .present)) :
    t.snap = s.snap := by
  cases e with
  | present => exact absurd rfl hp
  | phasePresent phase => exact absurd ⟨rfl, phase⟩ hf
  | _ => simp

end

/-- Settles O43, from the frame of each flag and of the last byte. -/
theorem statusFrame : Obligations.StatusFrame := by
  unfold Obligations.StatusFrame
  intro i s t h hi
  have e := exec_effect h hi
  refine ⟨e.overflowFlag, fun d hd => ?_, e.autoModeFlag, e.lastReceivedByte⟩
  subst hd
  exact e.overflowFlag_rxi

/-- Settles O44: the writers of `ie` from its three cases, the pending bits and the request from their frames. -/
theorem deliveryFrame : Obligations.DeliveryFrame := by
  unfold Obligations.DeliveryFrame
  intro i s t h hi
  have e := exec_effect h hi
  refine ⟨fun hs ht => ?_, fun hs ht => ?_, e.pend_br,
    fun hq hx hd hf => ⟨e.pend_tr hq hx hd hf, e.txIrqArmed hx hd hf⟩, fun hq => ?_, e.pend_ls, e.pend_re⟩
  · rcases e.ie_cases with hsame | ⟨hdi, -⟩ | ⟨hon, -⟩
    · simp [hs, ht] at hsame
    · exact hdi
    · simp [ht] at hon
  · rcases e.ie_cases with hsame | ⟨-, hoff⟩ | ⟨-, hwriter⟩
    · simp [hs, ht] at hsame
    · simp [ht] at hoff
    · exact hwriter
  · subst hq
    exact e.txIrqArmed (by simp) (by simp) (by simp)

/-- Settles O45, from the frame of each latch, of the foreground's context and of the snapshot. -/
theorem foregroundFrame : Obligations.ForegroundFrame := by
  unfold Obligations.ForegroundFrame
  intro i s t h hi
  have e := exec_effect h hi
  exact ⟨e.toggleEvt, e.triggerEvt, e.foregroundContext, e.snap⟩

/-! ## Device calls -/

/-- The device calls that operation `i` makes in state `s` (R40, R167). -/
def callsOf (i : Instr) (s : State) : List DevCall :=
  match i with
  | .rxi d => if deliverable .br s then [.rx d] else []
  | .lsi => if deliverable .ls s then [.ackLS] else []
  | .rei => if deliverable .re s then [.ackRE] else []
  | .txi => if deliverable .tr s then (if isEmpty s then [.disarm] else [.tx (slotByte s s.tail)]) else []
  | .drain => if isEmpty s then [] else [.tx (slotByte s s.tail)]
  | .fgstep => if s.fgPhase = .send then s.popped.toList.map .tx else []
  | _ => []

theorem Effect.devTrace {i : Instr} {s t : State} (e : Effect s i t) : t.devTrace = s.devTrace ++ callsOf i s := by
  cases e with
  | rxiRefused _ masked | lsiRefused masked | reiRefused masked | txiRefused masked => simp [callsOf, masked]
  | rxiFull _ taken | rxiRoom _ taken | lsiDone taken | reiDone taken => simp [callsOf, taken]
  | txiEmpty taken empty => simp [callsOf, taken, empty]
  | txiByte taken byte => simp [callsOf, taken, byte]
  | drainEmpty empty => simp [callsOf, empty]
  | drainByte byte => simp [callsOf, byte]
  | phaseInput phase | phaseSnap phase | phasePopEmpty phase | phasePopByte phase | phasePresent phase =>
    simp [callsOf, phase]
  | phaseSend b phase popped => simp [callsOf, phase, popped]
  | _ => simp [callsOf]

theorem deliverable_iff (c : Cause) (s : State) : deliverable c s = true ↔ s.ie = true ∧ s.pend.get c = true :=
  Bool.and_eq_true_iff

theorem length_callsOf (i : Instr) (s : State) : (callsOf i s).length ≤ 1 := by
  cases i with
  | rxi | lsi | rei | drain => simp only [callsOf]; split <;> simp
  | txi =>
    simp only [callsOf]
    split
    · split <;> simp
    · simp
  | fgstep =>
    simp only [callsOf]
    split
    · simp
    · simp
  | _ => simp [callsOf]

/-- Who makes which call, and when (R104, R111 to R114, R142, R102, R103). -/
theorem mem_callsOf (i : Instr) (s : State) (c : DevCall) :
    c ∈ callsOf i s ↔
      (∃ d, i = .rxi d ∧ deliverable .br s = true ∧ c = .rx d) ∨
      (i = .lsi ∧ deliverable .ls s = true ∧ c = .ackLS) ∨
      (i = .rei ∧ deliverable .re s = true ∧ c = .ackRE) ∨
      (i = .txi ∧ deliverable .tr s = true ∧ isEmpty s = true ∧ c = .disarm) ∨
      (i = .txi ∧ deliverable .tr s = true ∧ isEmpty s = false ∧ c = .tx (slotByte s s.tail)) ∨
      (i = .drain ∧ isEmpty s = false ∧ c = .tx (slotByte s s.tail)) ∨
      (i = .fgstep ∧ s.fgPhase = .send ∧ ∃ b, s.popped = some b ∧ c = .tx b) := by
  cases i with
  | txi => cases he : isEmpty s <;> simp [callsOf, he]
  | fgstep => simp [callsOf, eq_comm (a := c)]
  | _ => simp [callsOf]

/-- Settles O46: the calls added are `callsOf`, whose members are known. -/
theorem deviceCallsOfEachOperation : Obligations.DeviceCallsOfEachOperation := by
  unfold Obligations.DeviceCallsOfEachOperation
  intro i s t h hi
  refine ⟨callsOf i s, (exec_effect h hi).devTrace, length_callsOf i s, fun d => ?_, ?_, fun b => ?_, ?_, ?_⟩ <;>
    simp [mem_callsOf, deliverable_iff, Pend.get, and_assoc]

/-! ## Index arithmetic -/

/-- Settles O13, from the two cases of an advance and of the occupancy. -/
theorem indexArithmetic : Obligations.IndexArithmetic := by
  unfold Obligations.IndexArithmetic
  refine ⟨fun p i => ⟨adv_toNat p i, adv_lt p i, fun hi => ?_⟩, fun s hh ht => ?_⟩
  · rcases adv_cases p i hi with ⟨hlast, h⟩ | ⟨hlt, h⟩
    · rw [h, if_pos (by omega)]
    · rw [h, if_neg (by omega)]
  · rcases occupancy_cases s hh ht with ⟨hle, h⟩ | ⟨hlt, h⟩
    · rw [h, if_pos hle]
    · rw [h, if_neg (by omega)]

/-- An advance moves an index, since there are at least two slots. -/
theorem not_isEmpty_and_isFull {s : State} (hh : s.head.toNat < s.params.slots) :
    ¬ (isEmpty s = true ∧ isFull s = true) := by
  rw [bufferEmpty_iff, bufferFull_iff]
  have := adv_cases s.params s.head hh
  have := s.params.two_le_slots
  omega

section
variable {s : State} (hh : s.head.toNat < s.params.slots) (ht : s.tail.toNat < s.params.slots)
include hh ht

theorem isEmpty_iff_occupancy : isEmpty s = true ↔ occupancy s = 0 := by
  rw [bufferEmpty_iff, ← BitVec.toNat_inj, show (0 : Byte).toNat = 0 from rfl]
  have := occupancy_cases s hh ht
  omega

theorem isFull_iff_occupancy : isFull s = true ↔ (occupancy s).toNat = s.params.slots - 1 := by
  rw [bufferFull_iff]
  have := occupancy_cases s hh ht
  have := adv_cases s.params s.head hh
  omega

end

/-- Settles O14, each clause from the occupancy of indices in range. -/
theorem emptyFullOccupancy : Obligations.EmptyFullOccupancy := by
  unfold Obligations.EmptyFullOccupancy
  intro s
  refine ⟨beq_iff_eq, beq_iff_eq, fun hh ht => ⟨isEmpty_iff_occupancy hh ht, isFull_iff_occupancy hh ht,
    not_isEmpty_and_isFull hh, ?_⟩⟩
  have := occupancy_lt s
  omega

/-! ## Reset -/

/-- Settles O11: equal indices in range are an empty buffer, which is not full. -/
theorem resetStateValues : Obligations.ResetStateValues := by
  unfold Obligations.ResetStateValues
  intro p r
  have hempty : isEmpty (State.resetWith p r) = true := beq_self_eq_true p.start
  refine ⟨rfl, rfl, rfl, rfl, rfl, rfl, rfl, fun c => by cases c <;> rfl, rfl, rfl, rfl, rfl, rfl, rfl, rfl, rfl, rfl,
    fun a => rfl, fun hr => ⟨hempty, ?_, (isEmpty_iff_occupancy hr hr).mp hempty⟩⟩
  have hnot : ¬ isFull (State.resetWith p r) = true := fun hf => not_isEmpty_and_isFull hr ⟨hempty, hf⟩
  simpa using hnot

/-- Settles O12: `execReset` is the reset state of the parameters with the schedule kept, whatever the state was. -/
theorem resetCommand : Obligations.ResetCommand := by
  unfold Obligations.ResetCommand
  intro s
  exact ⟨_, rfl, rfl, rfl, rfl, rfl, rfl, rfl, rfl, fun c => by cases c <;> rfl, rfl, rfl, rfl, rfl, rfl, rfl, rfl, rfl,
    rfl, fun a => rfl, rfl, rfl, rfl, rfl⟩

/-! ## Pops with a byte at `tail`, written or not -/

section
variable {s : State} (byte : isEmpty s = false) (range : s.tail.toNat < s.params.slots)
include byte range

theorem exec_pop_byte : exec .pop s = .next (setRes .ok (slotByte s s.tail) (advanceTail s)) :=
  answer_map_ok _ (tryPop_some byte range)

theorem exec_drain_byte :
    exec .drain s = .next (setRes .ok (slotByte s s.tail)
      (transmitByte (slotByte s s.tail) (enableDelivery (advanceTail s)))) :=
  answer_map_ok _ (bracketedPop_some byte range)

theorem exec_txi_byte (taken : deliverable .tr s = true) :
    exec .txi s = .next (leaveHandler (setRes .ok (slotByte s s.tail)
      (transmitByte (slotByte s s.tail) (advanceTail (enterHandler s))))) := by
  refine takeInterrupt_runs taken ?_
  rw [txiBody, tryPop_some (s := enterHandler s) byte range]
  rfl

theorem runPhase_pop_byte (phase : s.fgPhase = .pop) :
    runPhase s = .ok
      { enableDelivery (advanceTail s) with popped := some (slotByte s s.tail), fgPhase := .send } := by
  simp only [runPhase, phase, phasePop, bracketedPop_some byte range]
  rfl

theorem exec_fgstep_pop_byte (phase : s.fgPhase = .pop) :
    exec .fgstep s = .next (setRes .ok 3
      { enableDelivery (advanceTail s) with popped := some (slotByte s s.tail), fgPhase := .send }) :=
  answer_map_ok _ (runPhase_pop_byte byte range phase)

end

theorem slotByte_unwritten {s : State} {i : Byte} (h : Memory.read i.toNat s.storage = none) :
    slotByte s i = Config.slotAtReset s.resets i.toNat := by
  rw [slotByte, h, Option.getD_none]

theorem isEmpty_eq_false {s : State} (h : s.head ≠ s.tail) : isEmpty s = false := beq_false_of_ne h

/-- Settles O17: each pop answers `slotByte`, which for an unwritten slot is the free value. -/
theorem unwrittenSlotGivesAFreeValue : Obligations.UnwrittenSlotGivesAFreeValue := by
  unfold Obligations.UnwrittenSlotGivesAFreeValue
  intro s hne range hfree
  have byte := isEmpty_eq_false hne
  rw [← slotByte_unwritten hfree]
  refine ⟨exec_pop_byte byte range, exec_drain_byte byte range, fun hie hp => ?_, exec_fgstep_pop_byte byte range⟩
  exact exec_txi_byte byte range ((deliverable_iff .tr s).mpr ⟨hie, hp⟩)

/-! ## The two stops -/

theorem answer_map_error {α : Type} {x : Except Fault α} {e : Fault} (f : α → State) (h : x = .error e) :
    answer (x.map f) = .fault e := by
  rw [h]
  rfl

theorem tryPush_outside {b : Byte} {s : State} (room : isFull s = false) (out : s.params.slots ≤ s.head.toNat) :
    tryPush b s = .error .slotOutsideStorage := by
  simp only [tryPush, memWrite, room, if_neg (Nat.not_lt.mpr out)]
  rfl

theorem tryPop_outside {s : State} (byte : isEmpty s = false) (out : s.params.slots ≤ s.tail.toNat) :
    tryPop s = .error .slotOutsideStorage := by
  simp only [tryPop, memRead, byte, if_neg (Nat.not_lt.mpr out)]
  rfl

theorem bracketedPop_outside {s : State} (byte : isEmpty s = false) (out : s.params.slots ≤ s.tail.toNat) :
    bracketedPop s = .error .slotOutsideStorage := by
  rw [bracketedPop, tryPop_outside (s := disableDelivery s) byte out]
  rfl

theorem takeInterrupt_stops {c : Cause} {body : State → Except Fault State} {s : State} {e : Fault}
    (taken : deliverable c s = true) (hb : body (enterHandler s) = .error e) : takeInterrupt c body s = .fault e := by
  rw [takeInterrupt, if_pos taken]
  exact answer_map_error _ hb

theorem rxiBody_outside {d : Byte} {s : State} (room : isFull s = false) (out : s.params.slots ≤ s.head.toNat) :
    rxiBody d s = .error .slotOutsideStorage := by
  rw [rxiBody, tryPush_outside (s := { receiveByte d s with lastReceivedByte := d }) room out]
  rfl

theorem txiBody_outside {s : State} (byte : isEmpty s = false) (out : s.params.slots ≤ s.tail.toNat) :
    txiBody s = .error .slotOutsideStorage := by
  rw [txiBody, tryPop_outside byte out]
  rfl

theorem runPhase_pop_outside {s : State} (phase : s.fgPhase = .pop) (byte : isEmpty s = false)
    (out : s.params.slots ≤ s.tail.toNat) : runPhase s = .error .slotOutsideStorage := by
  simp only [runPhase, phase, phasePop, bracketedPop_outside byte out]
  rfl

theorem runPhase_send_none {s : State} (phase : s.fgPhase = .send) (hp : s.popped = none) :
    runPhase s = .error .sendWithoutByte := by
  simp only [runPhase, phase, phaseSend, hp]

/-- Settles O22: a fault of the shared body is the fault of every operation built on it. -/
theorem stopsOutsideTheInvariant : Obligations.StopsOutsideTheInvariant := by
  unfold Obligations.StopsOutsideTheInvariant
  intro s
  refine ⟨fun d room out => answer_map_error _ (tryPush_outside room out), fun d room out hie hp => ?_,
    fun byte out => ⟨answer_map_error _ (tryPop_outside byte out), answer_map_error _ (bracketedPop_outside byte out),
      fun hie hp => ?_, fun phase => answer_map_error _ (runPhase_pop_outside phase byte out)⟩,
    fun phase hp => answer_map_error _ (runPhase_send_none phase hp)⟩
  · exact takeInterrupt_stops ((deliverable_iff .br s).mpr ⟨hie, hp⟩)
      (rxiBody_outside (s := enterHandler s) room out)
  · exact takeInterrupt_stops ((deliverable_iff .tr s).mpr ⟨hie, hp⟩)
      (txiBody_outside (s := enterHandler s) byte out)

end Sys2Proof.Machine

/-! PROOFS. Family 20_memory: what the slots outside the queue hold makes no difference (R65); the presented word runs
next (R63); no handler reaches the block while delivery is off (R59). -/

namespace Sys2Proof.Machine

/-! ## Dead slots -/

/-- Each effect of an operation is the outcome that `exec` computes: with `exec_effect`, the two say the same. -/
theorem Effect.exec_eq {i : Instr} {s t : State} (e : Effect s i t) : exec i s = .next t := by
  cases e with
  | pushFull d full => exact answer_map_ok _ (tryPush_full full)
  | pushRoom d room range => exact answer_map_ok _ (tryPush_room room range)
  | popEmpty empty => exact answer_map_ok _ (tryPop_empty empty)
  | popByte byte range => exact exec_pop_byte byte range
  | drainEmpty empty => exact answer_map_ok _ (bracketedPop_empty empty)
  | drainByte byte range => exact exec_drain_byte byte range
  | irqAsserted c may => exact congrArg Host.Outcome.next (if_pos may)
  | irqRefused c may => exact congrArg Host.Outcome.next (if_neg (by simp [may]))
  | rxiRefused _ masked | lsiRefused masked | reiRefused masked | txiRefused masked =>
    exact takeInterrupt_refused masked
  | rxiFull d taken full =>
    exact takeInterrupt_runs taken (congrArg (Except.map _) (tryPush_full (s := received d s) full))
  | rxiRoom d taken room range =>
    exact takeInterrupt_runs taken (congrArg (Except.map _) (tryPush_room (s := received d s) room range))
  | lsiDone taken | reiDone taken => exact takeInterrupt_runs taken rfl
  | txiEmpty taken empty =>
    exact takeInterrupt_runs taken (congrArg (Except.map _) (tryPop_empty (s := enterHandler s) empty))
  | txiByte taken byte range => exact exec_txi_byte byte range taken
  | phaseInput phase | phaseSnap phase | phasePresent phase => exact answer_map_ok _ (by rw [runPhase, phase])
  | phasePopEmpty phase empty =>
    refine answer_map_ok _ (a := { enableDelivery s with popped := none, fgPhase := .present }) ?_
    simp only [runPhase, phase, phasePop, bracketedPop_empty empty]
    rfl
  | phasePopByte phase byte range => exact exec_fgstep_pop_byte byte range phase
  | phaseSend b phase popped => exact answer_map_ok _ (by simp only [runPhase, phase, Machine.phaseSend, popped])
  | empty | full | occ | key | toggle | clrovf | present | di | ei => rfl

theorem phaseInput_replaceStorage (s : State) (m : Memory) :
    phaseInput { s with storage := m } = { phaseInput s with storage := m } := by
  cases h : s.toggleEvt <;> simp [phaseInput, h, flipMode]

/-- The front of the queue is all that an operation reads of `storage`: with another storage that has the same front
byte, it has the same effect on everything else. -/
theorem Effect.replaceStorage {i : Instr} {s t : State} {m : Memory} (e : Effect s i t)
    (front : isEmpty s = false → slotByte { s with storage := m } s.tail = slotByte s s.tail) :
    ∃ m', Effect { s with storage := m } i { t with storage := m' } := by
  cases e with
  | pushRoom d room range => exact ⟨_, .pushRoom (s := { s with storage := m }) d room range⟩
  | rxiRoom d taken room range => exact ⟨_, .rxiRoom (s := { s with storage := m }) d taken room range⟩
  | popByte byte range =>
    rw [← front byte]
    exact ⟨m, .popByte byte range⟩
  | txiByte taken byte range =>
    rw [← front byte]
    exact ⟨m, .txiByte taken byte range⟩
  | drainByte byte range =>
    rw [← front byte]
    exact ⟨m, .drainByte byte range⟩
  | phasePopByte phase byte range =>
    rw [← front byte]
    exact ⟨m, .phasePopByte phase byte range⟩
  | key k => cases k <;> exact ⟨m, .key _⟩
  | phaseInput phase =>
    have e' := Effect.phaseInput (s := { s with storage := m }) phase
    rw [phaseInput_replaceStorage] at e'
    exact ⟨m, e'⟩
  | _ => exact ⟨m, by constructor <;> assumption⟩

/-- Equal queues that are not empty have the same byte at `tail`. -/
theorem slotByte_tail_of_queue_eq {s s' : State} (hs : s.Inv) (hs' : s'.Inv) (byte : isEmpty s = false)
    (byte' : isEmpty s' = false) (hq : queue s' = queue s) : slotByte s' s'.tail = slotByte s s.tail := by
  rw [queue_advanceTail s hs.headInRange hs.tailInRange byte,
    queue_advanceTail s' hs'.headInRange hs'.tailInRange byte'] at hq
  exact List.head_eq_of_cons_eq hq

/-- The bytes an operation accepts and releases are read from its result, `popped` and the phase, so equal queues stay
equal when two runs of it differ in `storage` alone. -/
theorem queue_eq_of_replaceStorage {i : Instr} {s t : State} {m m' : Memory} (hs : s.Inv)
    (hs' : State.Inv { s with storage := m }) (e : Effect s i t)
    (e' : Effect { s with storage := m } i { t with storage := m' })
    (hq : queue { s with storage := m } = queue s) : queue { t with storage := m' } = queue t := by
  have h : queue s ++ acceptedBy i t = releasedBy i s t ++ queue t := e.buffer.queue_eq hs.buffer
  have h' : queue { s with storage := m } ++ acceptedBy i t = releasedBy i s t ++ queue { t with storage := m' } :=
    e'.buffer.queue_eq hs'.buffer
  rw [hq, h] at h'
  exact (List.append_cancel_left h').symm

/-- Settles O54: the other storage has the same byte at the front of the queue, which is all an operation reads of it;
RESET reads none. -/
theorem deadSlotsMakeNoDifference : Obligations.DeadSlotsMakeNoDifference := by
  unfold Obligations.DeadSlotsMakeNoDifference
  intro i s s' t hs hs' hsame hq h
  generalize s'.storage = m at hsame
  subst hsame
  by_cases hi : i = .reset
  · subst hi
    cases h
    exact ⟨_, rfl, rfl, rfl⟩
  · have e := exec_effect h hi
    obtain ⟨m', e'⟩ := e.replaceStorage (m := m) fun byte => slotByte_tail_of_queue_eq hs hs' byte byte hq
    exact ⟨_, e'.exec_eq, rfl, queue_eq_of_replaceStorage hs hs' e e' hq⟩

/-! ## The presented word -/

theorem decode_tableWord_of_decodeTableWord {w : Nat} {i : Instr} (h : decodeTableWord 16 w = some i) :
    decode (tableWord 16 w) = .ok i := by
  rw [decodeTableWord_eq] at h
  cases hw : decode (tableWord 16 w) with
  | ok j =>
    rw [hw] at h
    exact congrArg Except.ok (Option.some.inj h)
  | error e =>
    rw [hw] at h
    cases h

/-- Settles O9: the presented word is the head of the schedule, and consuming it gives the state back. -/
theorem presentedWordRunsNext : Obligations.PresentedWordRunsNext := by
  unfold Obligations.PresentedWordRunsNext
  intro s w i h
  exact stepRunsTheDecodedOperation (s.withFetchWord 16 w) _ s.schedule i rfl (decode_tableWord_of_decodeTableWord h)

/-! ## Handlers while delivery is off -/

theorem deliverable_of_masked (c : Cause) {s : State} (hie : s.ie = false) : deliverable c s = false := by
  rw [deliverable, hie, Bool.false_and]

/-- Settles O48: while delivery is off no cause is deliverable, and every operation of agent INT takes a cause. -/
theorem handlersRefusedWhileMasked : Obligations.HandlersRefusedWhileMasked := by
  unfold Obligations.HandlersRefusedWhileMasked
  intro i s hi hie
  have refused : ∀ c body, takeInterrupt c body s = .next (refuse s) := fun c _ =>
    takeInterrupt_refused (deliverable_of_masked c hie)
  cases i with
  | rxi | lsi | rei | txi => exact refused _ _
  | _ => cases hi

end Sys2Proof.Machine

/-! PROOFS. Family 30_encoding: the decoder against the encoder, the opcode table and the listed illegal words (R70 to
R74, R82); the packed words (R76, R79); the assembler and its pseudo-operations (R80, R81). -/

namespace Sys2Proof

/-! ## What the decoder answers -/

/-- The illegal words of R74, by opcode and operand: an opcode in a gap, or an operand bit that the format of the
opcode requires to be zero. -/
def ListedIllegal (opc d : Byte) : Prop :=
  (opc.toNat ≤ 0x0F ∨ (0x15 ≤ opc.toNat ∧ opc.toNat ≤ 0x1F) ∨ (0x24 ≤ opc.toNat ∧ opc.toNat ≤ 0x2F) ∨
    (0x32 ≤ opc.toNat ∧ opc.toNat ≤ 0x3F) ∨ (0x43 ≤ opc.toNat ∧ opc.toNat ≤ 0x4F) ∨
    (0x51 ≤ opc.toNat ∧ opc.toNat ≤ 0x5F) ∨ 0x64 ≤ opc.toNat) ∨
  (opc = 0x20 ∧ 4 ≤ d.toNat) ∨ (opc = 0x40 ∧ 2 ≤ d.toNat) ∨
  (opc ≠ 0x10 ∧ opc ≠ 0x21 ∧ opc ≠ 0x20 ∧ opc ≠ 0x40 ∧ d ≠ 0)

/-- What an answer of the decoder says about the word: the two bytes of the operation, or that the word is a listed
illegal one. -/
def AnswerFits (w : Word) : Except Illegal Instr → Prop
  | .ok i => opcodeOf w = i.opcode ∧ operandOf w = i.operand
  | .error _ => ListedIllegal (opcodeOf w) (operandOf w)

section
variable {w : Word}

/-- Format Z: every opcode but those of formats B, C, K requires a zero operand. -/
theorem answerFits_formatZ {i : Instr} (hop : (opcodeOf w).toNat = i.opcode.toNat) (hd : i.operand = 0)
    (hz : i.opcode ≠ 0x10 ∧ i.opcode ≠ 0x21 ∧ i.opcode ≠ 0x20 ∧ i.opcode ≠ 0x40) :
    AnswerFits w (formatZ (operandOf w) i) := by
  have hop := BitVec.eq_of_toNat_eq hop
  unfold formatZ
  split
  case isTrue h => exact ⟨hop, h.trans hd.symm⟩
  case isFalse h =>
    obtain ⟨h10, h21, h20, h40⟩ := hop ▸ hz
    exact .inr (.inr (.inr ⟨h10, h21, h20, h40, h⟩))

/-- The must-be-zero bits of formats C and K: those above bit `k` are zero when the operand is below `2 ^ k`. -/
theorem high_bits_eq_zero_iff (d : Byte) {k l : Nat} (hkl : k + l = 8) : d.extractLsb' k l = 0 ↔ d.toNat < 2 ^ k := by
  have hdiv : d.toNat / 2 ^ k < 2 ^ l := by
    rw [Nat.div_lt_iff_lt_mul (Nat.two_pow_pos k), ← Nat.pow_add, Nat.add_comm, hkl]
    exact d.isLt
  rw [← BitVec.toNat_inj, BitVec.extractLsb'_toNat, Nat.shiftRight_eq_div_pow, Nat.mod_eq_of_lt hdiv]
  exact Nat.div_eq_zero_iff_lt (Nat.two_pow_pos k)

/-- The bits below `k` are then the whole operand. -/
theorem setWidth_low_bits {d : Byte} {k : Nat} (h : d.toNat < 2 ^ k) : (d.extractLsb' 0 k).setWidth 8 = d := by
  apply BitVec.eq_of_toNat_eq
  rw [BitVec.toNat_setWidth, BitVec.extractLsb'_toNat, Nat.shiftRight_zero, Nat.mod_eq_of_lt h, Nat.mod_eq_of_lt d.isLt]

/-- Formats C and K: the operand's `k` low bits name the operation, and those above must be zero. -/
theorem answerFits_lowBits {i : Instr} {k l : Nat} (hkl : k + l = 8) (hop : (opcodeOf w).toNat = i.opcode.toNat)
    (hd : i.operand = ((operandOf w).extractLsb' 0 k).setWidth 8)
    (hbad : opcodeOf w = i.opcode → 2 ^ k ≤ (operandOf w).toNat → ListedIllegal (opcodeOf w) (operandOf w)) :
    AnswerFits w (if (operandOf w).extractLsb' k l = 0 then .ok i else .error .operandNotZero) := by
  have hop := BitVec.eq_of_toNat_eq hop
  have hbits := high_bits_eq_zero_iff (operandOf w) hkl
  split
  case isTrue h => exact ⟨hop, (hd.trans (setWidth_low_bits (hbits.mp h))).symm⟩
  case isFalse h => exact hbad hop (not_lt.mp fun hlt => h (hbits.mpr hlt))

theorem answerFits_formatC (hop : (opcodeOf w).toNat = 0x20) : AnswerFits w (formatC (operandOf w) .irq) :=
  answerFits_lowBits rfl hop (by rw [Instr.operand, code_causeOfCode]) fun h20 h4 => .inr (.inl ⟨h20, h4⟩)

theorem answerFits_formatK (hop : (opcodeOf w).toNat = 0x40) : AnswerFits w (formatK (operandOf w) .key) :=
  answerFits_lowBits rfl hop (by rw [Instr.operand, id_keyOfId]) fun h40 h2 => .inr (.inr (.inl ⟨h40, h2⟩))

end

/-- All that the decoder can answer, opcode by opcode: formats B, C, K, no opcode of the map, and format Z. -/
theorem decode_fits (w : Word) : AnswerFits w (decode w) := by
  unfold decode
  split
  case h_1 hop | h_7 hop => exact ⟨BitVec.eq_of_toNat_eq hop, rfl⟩
  case h_6 hop => exact answerFits_formatC hop
  case h_12 hop => exact answerFits_formatK hop
  case h_20 =>
    simp only [imp_false] at *
    exact .inl (by omega)
  all_goals exact answerFits_formatZ ‹_› rfl (by decide)

/-! ## The decoder at the opcodes of formats B, C, K -/

section
variable {w : Word}

theorem decode_push (hop : opcodeOf w = 0x10) : decode w = .ok (.push (operandOf w)) := by
  rw [decode, hop]
  rfl

theorem decode_rxi (hop : opcodeOf w = 0x21) : decode w = .ok (.rxi (operandOf w)) := by
  rw [decode, hop]
  rfl

theorem decode_irq (hop : opcodeOf w = 0x20) (hz : (operandOf w).extractLsb' 2 6 = 0) :
    decode w = .ok (.irq (causeOfCode ((operandOf w).extractLsb' 0 2))) := by
  rw [decode, hop]
  exact if_pos hz

theorem decode_key (hop : opcodeOf w = 0x40) (hz : (operandOf w).extractLsb' 1 7 = 0) :
    decode w = .ok (.key (keyOfId ((operandOf w).extractLsb' 0 1))) := by
  rw [decode, hop]
  exact if_pos hz

end

/-! ## Decode and encode -/

theorem encode_of_decode {w : Word} {i : Instr} (h : decode w = .ok i) : encode i = w := by
  have hfits := decode_fits w
  rw [h] at hfits
  obtain ⟨hop, hd⟩ := hfits
  rw [encode, ← hop, ← hd, wordOf_opcodeOf_operandOf]

/-- No operation's two bytes are those of a listed illegal word. -/
theorem not_listedIllegal_encoded (i : Instr) : ¬ ListedIllegal i.opcode i.operand := by
  cases i with
  | push d | rxi d => simp [ListedIllegal, Instr.opcode]
  | irq c => cases c <;> simp [ListedIllegal, Instr.opcode, Instr.operand, Cause.code]
  | key k => cases k <;> simp [ListedIllegal, Instr.opcode, Instr.operand, Key.id]
  | _ => simp [ListedIllegal, Instr.opcode, Instr.operand]

/-- The encoding of each operation, read by its format. -/
theorem decode_encode (i : Instr) : decode (encode i) = .ok i := by
  cases i with
  | push d =>
    have h := decode_push (w := encode (.push d)) (opcodeOf_wordOf 0x10 d)
    rwa [encode, operandOf_wordOf] at h
  | rxi d =>
    have h := decode_rxi (w := encode (.rxi d)) (opcodeOf_wordOf 0x21 d)
    rwa [encode, operandOf_wordOf] at h
  | irq c => cases c <;> rfl
  | key k => cases k <;> rfl
  | _ => rfl

/-- Settles O2: an encoding decodes by the operation's format; a word that decodes has the operation's two bytes. -/
theorem decodeEncodeAgree : Obligations.DecodeEncodeAgree := by
  unfold Obligations.DecodeEncodeAgree
  exact ⟨decode_encode, fun _ _ => encode_of_decode⟩

/-- Settles O1: each word is the encoding of its operation. -/
theorem decodesWordsOfTheOpcodeMap : Obligations.DecodesWordsOfTheOpcodeMap := by
  unfold Obligations.DecodesWordsOfTheOpcodeMap
  exact ⟨decode_encode (.push 0x44), decode_encode .occ, decode_encode (.irq .re), decode_encode (.rxi 0xA4),
    decode_encode .txi, decode_encode (.key .trigger), decode_encode .present, decode_encode .fgstep⟩

/-! ## The opcode table -/

open Laws.EncodedRow in
theorem encodedRow (i : Instr) : Statement i := by
  cases i
  exacts [push _, pop, empty, full, occ, irq _, rxi _, lsi, rei, txi, drain, key _, toggle, clrovf, present, di, ei,
    fgstep, reset]

/-- What the decoder reads, the row of the operation's mnemonic accepts. -/
theorem row_of_decode {w : Word} {i : Instr} (h : decode w = .ok i) :
    ∃ r ∈ opcodeTable, r.accepts w = true ∧ r.mnemonic = i.mnemonic := by
  obtain ⟨r, hr, hm, ha⟩ := encodedRow i
  exact ⟨r, hr, encode_of_decode h ▸ ha, hm⟩

/-- A row's test, byte by byte. -/
theorem Row.accepts_bytes {r : Row} {w : Word} (h : r.accepts w = true) :
    opcodeOf w &&& opcodeOf r.mask = opcodeOf r.pattern ∧ operandOf w &&& operandOf r.mask = operandOf r.pattern := by
  have h : w &&& r.mask = r.pattern := beq_iff_eq.mp h
  unfold opcodeOf operandOf
  rw [← BitVec.extractLsb'_and, ← BitVec.extractLsb'_and, h]
  exact ⟨rfl, rfl⟩

/-- Every row looks at the whole opcode byte. -/
theorem opcodeOf_mask : ∀ r ∈ opcodeTable, opcodeOf r.mask = BitVec.allOnes 8 := by decide

theorem opcodeOf_eq_of_accepts {r : Row} {w : Word} (hr : r ∈ opcodeTable) (h : r.accepts w = true) :
    opcodeOf w = opcodeOf r.pattern := by
  have hop := (Row.accepts_bytes h).1
  rwa [opcodeOf_mask r hr, BitVec.and_allOnes] at hop

/-- No two rows of the table have the same opcode. -/
theorem opcodes_nodup : (opcodeTable.map fun r => opcodeOf r.pattern).Nodup := by decide

theorem row_unique {w : Word} {r r' : Row} (hr : r ∈ opcodeTable) (hr' : r' ∈ opcodeTable)
    (h : r.accepts w = true) (h' : r'.accepts w = true) : r = r' :=
  List.inj_on_of_nodup_map opcodes_nodup hr hr'
    ((opcodeOf_eq_of_accepts hr h).symm.trans (opcodeOf_eq_of_accepts hr' h'))

/-- The formats of the table's rows: a row fixes the whole word, which decodes, or has an operand. -/
theorem opcodeTable_formats : ∀ r ∈ opcodeTable,
    (r.mask = BitVec.allOnes 16 ∧ (decode r.pattern).isOk = true) ∨
    (r.mask = 0xFF00 ∧ (r.pattern = 0x1000 ∨ r.pattern = 0x2100)) ∨
    (r.mask = 0xFFFC ∧ r.pattern = 0x2000) ∨ (r.mask = 0xFFFE ∧ r.pattern = 0x4000) := by decide

theorem extractLsb'_eq_zero_of_and {d m : Byte} {k l : Nat} (h : d &&& m = 0)
    (hm : m.extractLsb' k l = BitVec.allOnes l) : d.extractLsb' k l = 0 := by
  have hkl := congrArg (BitVec.extractLsb' k l) h
  rw [BitVec.extractLsb'_and, hm, BitVec.and_allOnes] at hkl
  exact hkl.trans BitVec.extractLsb'_zero

theorem decode_of_accepts {w : Word} {r : Row} (hr : r ∈ opcodeTable) (h : r.accepts w = true) :
    ∃ i, decode w = .ok i := by
  have hop := opcodeOf_eq_of_accepts hr h
  have hd := (Row.accepts_bytes h).2
  rcases opcodeTable_formats r hr with ⟨hm, hi⟩ | ⟨-, hp | hp⟩ | ⟨hm, hp⟩ | ⟨hm, hp⟩
  · rw [Row.accepts, hm, BitVec.and_allOnes, beq_iff_eq] at h
    rw [h]
    cases hdec : decode r.pattern with
    | ok i => exact ⟨i, rfl⟩
    | error e =>
      rw [hdec] at hi
      cases hi
  · exact ⟨_, decode_push (by rw [hop, hp]; rfl)⟩
  · exact ⟨_, decode_rxi (by rw [hop, hp]; rfl)⟩
  · rw [hm, hp] at hd
    exact ⟨_, decode_irq (by rw [hop, hp]; rfl) (extractLsb'_eq_zero_of_and hd (by decide))⟩
  · rw [hm, hp] at hd
    exact ⟨_, decode_key (by rw [hop, hp]; rfl) (extractLsb'_eq_zero_of_and hd (by decide))⟩

/-- Settles O3: a decoded word is an encoding, which its row accepts; an accepted word decodes by the row's format; and
rows differ in the opcode, which each looks at whole. -/
theorem decoderFollowsTheOpcodeTable : Obligations.DecoderFollowsTheOpcodeTable := by
  unfold Obligations.DecoderFollowsTheOpcodeTable
  refine ⟨fun w => ?_, fun w r r' => row_unique, fun w i => row_of_decode⟩
  rw [Command.wf, List.any_eq_true]
  constructor
  · rintro ⟨i, hi⟩
    obtain ⟨r, hr, ha, -⟩ := row_of_decode hi
    exact ⟨r, hr, ha⟩
  · rintro ⟨r, hr, ha⟩
    exact decode_of_accepts hr ha

/-! ## Illegal words -/

/-- R74: the words that do not decode are the listed ones. -/
theorem not_decode_iff (w : Word) : (∀ i, decode w ≠ .ok i) ↔ ListedIllegal (opcodeOf w) (operandOf w) := by
  have hfits := decode_fits w
  cases hw : decode w with
  | error e =>
    rw [hw] at hfits
    exact ⟨fun _ => hfits, fun _ _ => nofun⟩
  | ok i =>
    rw [hw] at hfits
    obtain ⟨hop, hd⟩ := hfits
    rw [hop, hd]
    exact ⟨fun h => absurd rfl (h i), fun h => absurd h (not_listedIllegal_encoded i)⟩

end Sys2Proof

namespace Sys2Proof.Machine

theorem runCommand_of_not_decode {w : Word} (h : ∀ i, decode w ≠ .ok i) (s : State) :
    runCommand w s = .next (illegal s) := by
  cases hw : decode w with
  | ok i => exact absurd hw (h i)
  | error e => exact runCommand_of_decode_error hw s

/-- Settles O4: the decoder's answers give the listed words; each is answered by `illegal`, which writes `res` alone. -/
theorem illegalWordsChangeOnlyTheResult : Obligations.IllegalWordsChangeOnlyTheResult := by
  unfold Obligations.IllegalWordsChangeOnlyTheResult
  refine ⟨not_decode_iff, fun w s h => runCommand_of_not_decode h s, ?_, ?_⟩
  · exact (not_decode_iff 0x0000).mpr (.inl (.inl (by decide)))
  · exact (not_decode_iff 0xFFFF).mpr (.inl (by decide))

/-- Settles O10: with no command `step` idles; an illegal one is answered by `illegal` on the state without it. -/
theorem stepWithNothingToPerform : Obligations.StepWithNothingToPerform := by
  unfold Obligations.StepWithNothingToPerform
  refine ⟨fun _ => step_of_schedule_nil, fun s w rest hs h => ?_⟩
  rw [step_of_schedule_cons hs, runCommand_of_not_decode h]
  rfl

/-! ## Packed words -/

theorem snapWord_occupancy (n : Snapshot) : (snapWord n).extractLsb' 10 8 = n.occupancy := by
  rw [snapWord, BitVec.extractLsb'_append_eq_of_le (by decide)]
  exact BitVec.extractLsb'_append_eq_left

theorem snapWord_status (n : Snapshot) : (snapWord n).extractLsb' 8 2 = statusNum n.status := by
  rw [snapWord, BitVec.extractLsb'_append_eq_of_le (by decide)]
  exact BitVec.extractLsb'_append_eq_right

theorem snapWord_lastByte (n : Snapshot) : (snapWord n).extractLsb' 0 8 = n.lastByte :=
  BitVec.extractLsb'_append_eq_right

/-- Settles O5: each packed word is an append of its fields; the numbers are the model's own, written out. -/
theorem packedWordsHoldTheirFields : Obligations.PackedWordsHoldTheirFields := by
  unfold Obligations.PackedWordsHoldTheirFields
  exact ⟨fun _ => ⟨BitVec.extractLsb'_append_eq_left, BitVec.extractLsb'_append_eq_right⟩,
    fun n => ⟨snapWord_occupancy n, snapWord_status n, snapWord_lastByte n⟩, rfl, rfl, rfl, rfl⟩

/-! ## The assembler: words -/

theorem splitWords_blank (cs : List Char) : splitWords (' ' :: cs) = splitWords cs := rfl

theorem splitWords_one {c : Char} (hc : isBlank c = false) : splitWords [c] = [[c]] := by
  simp [splitWords, hc]

/-- A letter before a blank ends its word. -/
theorem splitWords_cons_blank {c : Char} (hc : isBlank c = false) (cs : List Char) :
    splitWords (c :: ' ' :: cs) = [c] :: splitWords cs := by
  rw [splitWords.eq_def]
  simp only [hc, splitWords_blank]
  cases splitWords cs <;> rfl

/-- A letter before another one belongs to the same word. -/
theorem splitWords_cons_letter {c d : Char} {cs w : List Char} {ws : List (List Char)} (hc : isBlank c = false)
    (hd : isBlank d = false) (h : splitWords (d :: cs) = w :: ws) : splitWords (c :: d :: cs) = (c :: w) :: ws := by
  rw [splitWords.eq_def]
  simp only [hc, h, hd, Bool.false_eq_true, if_false]

/-- A blank at the end of a line adds no word. -/
theorem splitWords_trailing_blank (text : List Char) : splitWords (text ++ [' ']) = splitWords text := by
  induction text with
  | nil => rfl
  | cons c cs ih =>
    cases hc : isBlank c with
    | true => simp only [List.cons_append, splitWords, hc, if_true, ih]
    | false =>
      cases cs with
      | nil => rw [splitWords_one hc]; exact splitWords_cons_blank hc []
      | cons d ds =>
        simp only [List.cons_append] at ih ⊢
        rw [splitWords.eq_def (c :: d :: ds), splitWords.eq_def (c :: d :: (ds ++ [' ']))]
        simp only [ih]
        cases splitWords (d :: ds) <;> rfl

/-- A word of a line: neither empty nor broken by a blank or by the start of a comment. -/
def IsWord (m : List Char) : Prop := m ≠ [] ∧ ∀ c ∈ m, isBlank c = false ∧ c ≠ ';'

/-- The same as a test, for a name written out. -/
theorem isWord_cons {c : Char} {cs : List Char} (h : (c :: cs).all (fun c => !isBlank c && c != ';') = true) :
    IsWord (c :: cs) :=
  ⟨List.cons_ne_nil c cs, by simpa using h⟩

/-- A word is split as one word, and so is a word with a blank and more behind it. -/
theorem splitWords_word {m : List Char} (hm : IsWord m) :
    splitWords m = [m] ∧ ∀ o, splitWords (m ++ ' ' :: o) = m :: splitWords o := by
  obtain ⟨hne, hplain⟩ := hm
  induction m with
  | nil => exact absurd rfl hne
  | cons c cs ih =>
    rw [List.forall_mem_cons] at hplain
    obtain ⟨⟨hc, -⟩, hcs⟩ := hplain
    cases cs with
    | nil => exact ⟨splitWords_one hc, splitWords_cons_blank hc⟩
    | cons d ds =>
      obtain ⟨hword, happend⟩ := ih (List.cons_ne_nil d ds) hcs
      have hd := (hcs d List.mem_cons_self).1
      exact ⟨splitWords_cons_letter hc hd hword, fun o => splitWords_cons_letter hc hd (happend o)⟩

theorem semicolon_not_mem {m : List Char} (hm : IsWord m) : ';' ∉ m := fun h => (hm.2 ';' h).2 rfl

/-! ## Lines -/

theorem takeWhile_no_semicolon {text : List Char} (h : ';' ∉ text) : text.takeWhile (· != ';') = text := by
  rw [List.takeWhile_eq_self_iff]
  exact fun c hc => bne_iff_ne.mpr (ne_of_mem_of_not_mem hc h)

/-- A comment behind a blank does not change what a line says. -/
theorem parseLine_comment {text : List Char} (h : ';' ∉ text) (comment : List Char) :
    parseLine (text ++ ' ' :: ';' :: comment) = parseLine text := by
  have htake : (text ++ ' ' :: ';' :: comment).takeWhile (· != ';') = text ++ [' '] :=
    List.takeWhile_append_of_pos fun c hc => bne_iff_ne.mpr (ne_of_mem_of_not_mem hc h)
  rw [parseLine, parseLine, htake, splitWords_trailing_blank, takeWhile_no_semicolon h]

theorem parseLine_word {m : List Char} (hm : IsWord m) : parseLine m = lineOfWord m := by
  rw [parseLine, takeWhile_no_semicolon (semicolon_not_mem hm), (splitWords_word hm).1]

theorem semicolon_not_mem_two_words {m o : List Char} (hm : IsWord m) (ho : IsWord o) : ';' ∉ m ++ ' ' :: o := by
  simp [semicolon_not_mem hm, semicolon_not_mem ho]

theorem parseLine_two_words {m o : List Char} (hm : IsWord m) (ho : IsWord o) :
    parseLine (m ++ ' ' :: o) = lineOfWords m o := by
  rw [parseLine, takeWhile_no_semicolon (semicolon_not_mem_two_words hm ho), (splitWords_word hm).2,
    (splitWords_word ho).1]

/-! ## Operands and operations -/

/-- A printed digit reads back, and may stand in a word. -/
theorem hexChar_digit : ∀ n < 16,
    hexValue (hexChar n) = some n ∧ isBlank (hexChar n) = false ∧ hexChar n ≠ ';' := by decide

theorem byteOperand_byteText (d : Byte) : byteOperand (byteText d) = some d := by
  have hh := (hexChar_digit (d.toNat / 16) (by omega)).1
  have hl := (hexChar_digit (d.toNat % 16) (by omega)).1
  rw [byteText, byteOperand, byteOfDigits, hh, hl]
  simp only [Nat.div_add_mod, BitVec.ofNat_toNat, BitVec.setWidth_eq]

theorem isWord_byteText (d : Byte) : IsWord (byteText d) := by
  have hh := (hexChar_digit (d.toNat / 16) (by omega)).2
  have hl := (hexChar_digit (d.toNat % 16) (by omega)).2
  simp [IsWord, byteText, hh, hl]

theorem isWord_mnemonicText (i : Instr) : IsWord (mnemonicText i) := by
  cases i <;> exact isWord_cons rfl

theorem isWord_causeText (c : Cause) : IsWord (causeText c) := by
  cases c <;> exact isWord_cons rfl

theorem isWord_keyText (k : Key) : IsWord (keyText k) := by
  cases k <;> exact isWord_cons rfl

/-- What the assembler makes of the words an operation is printed as. -/
theorem parse_lineText (i : Instr) : ';' ∉ lineText i ∧ parseLine (lineText i) = some (.command i) := by
  have hm := isWord_mnemonicText i
  cases i with
  | push d | rxi d =>
    have ho := isWord_byteText d
    exact ⟨semicolon_not_mem_two_words hm ho,
      (parseLine_two_words hm ho).trans (congrArg (Option.map _) (byteOperand_byteText d))⟩
  | irq c =>
    have ho := isWord_causeText c
    exact ⟨semicolon_not_mem_two_words hm ho, (parseLine_two_words hm ho).trans (by cases c <;> rfl)⟩
  | key k =>
    have ho := isWord_keyText k
    exact ⟨semicolon_not_mem_two_words hm ho, (parseLine_two_words hm ho).trans (by cases k <;> rfl)⟩
  | _ => exact ⟨semicolon_not_mem hm, (parseLine_word hm).trans rfl⟩

/-- Settles O6: a comment is cut off before the words are read, and an operation's words parse to it. -/
theorem assemblerReadsWhatItPrints : Obligations.AssemblerReadsWhatItPrints := by
  unfold Obligations.AssemblerReadsWhatItPrints
  intro i comment
  obtain ⟨hplain, hparse⟩ := parse_lineText i
  exact ⟨hparse, (parseLine_comment hplain comment).trans hparse⟩

/-! ## Pseudo-operations -/

theorem tickSteps_last {s t : State} (h : exec .fgstep s = .next t) (ht : t.fgPhase = .input) (n : Nat) :
    tickSteps (n + 1) s = [.fgstep] := by
  simp only [tickSteps, h, ht, if_true]

theorem tickSteps_more {s t : State} (h : exec .fgstep s = .next t) (ht : t.fgPhase ≠ .input) (n : Nat) :
    tickSteps (n + 1) s = .fgstep :: tickSteps n t := by
  simp only [tickSteps, h, if_neg ht]

section
variable {s : State}

theorem tickSteps_present (phase : s.fgPhase = .present) (n : Nat) : tickSteps (n + 1) s = [.fgstep] :=
  tickSteps_last (Effect.phasePresent phase).exec_eq rfl n

theorem tickSteps_send {b : Byte} (phase : s.fgPhase = .send) (hb : s.popped = some b) (n : Nat) :
    tickSteps (n + 2) s = [.fgstep, .fgstep] := by
  rw [tickSteps_more (Effect.phaseSend b phase hb).exec_eq (by simp), tickSteps_present (by simp)]

theorem tickSteps_pop_empty (phase : s.fgPhase = .pop) (empty : isEmpty s = true) (n : Nat) :
    tickSteps (n + 2) s = [.fgstep, .fgstep] := by
  rw [tickSteps_more (Effect.phasePopEmpty phase empty).exec_eq (by simp), tickSteps_present (by simp)]

theorem tickSteps_pop_byte (phase : s.fgPhase = .pop) (byte : isEmpty s = false)
    (range : s.tail.toNat < s.params.slots) (n : Nat) : tickSteps (n + 3) s = [.fgstep, .fgstep, .fgstep] := by
  rw [tickSteps_more (Effect.phasePopByte phase byte range).exec_eq (by simp), tickSteps_send (by simp) (by simp; rfl)]

end

/-- The state two phases after P_INPUT: past P_SNAP, which always follows. -/
def afterSnap (s : State) : State :=
  setRes .ok (phaseSnap (setRes .ok 1 (phaseInput s))).fgPhase.num (phaseSnap (setRes .ok 1 (phaseInput s)))

/-- The mode, after a pending toggle, or a trigger asks for a drain (R139, R140). -/
def wantsDrain (s : State) : Bool := (s.autoModeFlag ^^ s.toggleEvt) || s.triggerEvt

theorem afterSnap_fgPhase (s : State) : (afterSnap s).fgPhase = if wantsDrain s then .pop else .present := by
  simp [afterSnap, wantsDrain, Bool.xor_comm]

@[simp] theorem afterSnap_tail (s : State) : (afterSnap s).tail = s.tail := by simp [afterSnap]
@[simp] theorem afterSnap_params (s : State) : (afterSnap s).params = s.params := by simp [afterSnap]
@[simp] theorem isEmpty_afterSnap (s : State) : isEmpty (afterSnap s) = isEmpty s := by simp [isEmpty, afterSnap]

section
variable {s : State} (phase : s.fgPhase = .input)
include phase

theorem tickSteps_input (n : Nat) : tickSteps (n + 2) s = .fgstep :: .fgstep :: tickSteps n (afterSnap s) := by
  rw [tickSteps_more (Effect.phaseInput phase).exec_eq (by simp),
    tickSteps_more (Effect.phaseSnap (by simp)).exec_eq (by simp; split <;> simp)]
  rfl

theorem pseudoTick_quiet (quiet : wantsDrain s = false) : pseudoTick s = [.fgstep, .fgstep, .fgstep] := by
  rw [pseudoTick, tickSteps_input phase, tickSteps_present (by simp [afterSnap_fgPhase, quiet])]

theorem pseudoTick_empty (drain : wantsDrain s = true) (empty : isEmpty s = true) :
    pseudoTick s = [.fgstep, .fgstep, .fgstep, .fgstep] := by
  rw [pseudoTick, tickSteps_input phase,
    tickSteps_pop_empty (by simp [afterSnap_fgPhase, drain]) (by simp [empty])]

theorem pseudoTick_byte (drain : wantsDrain s = true) (byte : isEmpty s = false)
    (range : s.tail.toNat < s.params.slots) : pseudoTick s = [.fgstep, .fgstep, .fgstep, .fgstep, .fgstep] := by
  rw [pseudoTick, tickSteps_input phase,
    tickSteps_pop_byte (by simp [afterSnap_fgPhase, drain]) (by simp [byte]) (by simpa using range)]

end

theorem wantsDrain_iff (s : State) :
    wantsDrain s = true ↔ (s.autoModeFlag ^^ s.toggleEvt) = true ∨ s.triggerEvt = true := Bool.or_eq_true_iff

/-- Settles O7: RX and TXRDY by definition; TICK by the phase P_SNAP leads to, and by what P_POP finds. -/
theorem pseudoOperationsExpand : Obligations.PseudoOperationsExpand := by
  unfold Obligations.PseudoOperationsExpand
  refine ⟨fun _ _ => rfl, fun _ => rfl, fun s hs phase =>
    ⟨fun hmode htrig => ?_, fun hdrain he => ?_, fun hdrain hne => ?_⟩⟩
  · exact pseudoTick_quiet phase (by simp [wantsDrain, hmode, htrig])
  · exact pseudoTick_empty phase ((wantsDrain_iff s).mpr hdrain) (beq_iff_eq.mpr he)
  · exact pseudoTick_byte phase ((wantsDrain_iff s).mpr hdrain) (isEmpty_eq_false hne) hs.tailInRange

end Sys2Proof.Machine

/-! PROOFS. Family 40_ringbuffer: what the five buffer operations answer (R90 to R94), how far they move the occupancy
(R97), and that a full buffer discards the newest byte (R98). -/

namespace Sys2Proof.Machine

/-! ## PUSH and POP -/

theorem isFull_eq_false {s : State} (h : (s.head + 1) &&& s.params.mask ≠ s.tail) : isFull s = false :=
  beq_false_of_ne h

theorem slotByte_written {s : State} {i b : Byte} (h : Memory.read i.toNat s.storage = some b) : slotByte s i = b := by
  rw [slotByte, h, Option.getD_some]

/-- Settles O15: the two outcomes of PUSH, and what the storage reads after the one write. -/
theorem pushResult : Obligations.PushResult := by
  unfold Obligations.PushResult
  intro d s
  refine ⟨fun full => (Effect.pushFull d (beq_iff_eq.mpr full)).exec_eq, fun room range => ?_⟩
  exact ⟨_, (Effect.pushRoom d (isFull_eq_false room) range).exec_eq, read_write_same _ _ _,
    fun a ha => read_write_other _ _ _ _ ha, rfl⟩

/-- Settles O16: the two outcomes of POP; the slot at `tail` answers the byte written there. -/
theorem popResult : Obligations.PopResult := by
  unfold Obligations.PopResult
  intro s
  refine ⟨fun empty => (Effect.popEmpty (beq_iff_eq.mpr empty)).exec_eq, fun b byte range written => ?_⟩
  rw [← slotByte_written written]
  exact exec_pop_byte (isEmpty_eq_false byte) range

/-! ## The occupancy -/

/-- Settles O20: a completed PUSH or POP is one of its two outcomes; a push succeeds only below the occupancy MASK. -/
theorem pushPopMoveTheOccupancyByOne : Obligations.PushPopMoveTheOccupancyByOne := by
  unfold Obligations.PushPopMoveTheOccupancyByOne
  intro s hh ht
  refine ⟨fun d t h => ?_, fun t h => ?_⟩
  · rcases execPush_cases h with ⟨full, rfl⟩ | ⟨room, -, rfl⟩
    · exact .inr ⟨rfl, rfl, rfl, rfl, (isFull_iff_occupancy hh ht).mp full⟩
    · have below : (occupancy s).toNat ≠ s.params.slots - 1 := by
        rw [Ne, ← isFull_iff_occupancy hh ht, room]
        exact Bool.false_ne_true
      have := occupancy_lt s
      exact .inl ⟨rfl, occupancy_pushed d s hh ht room, by omega⟩
  · rcases execPop_cases h with ⟨empty, rfl⟩ | ⟨byte, -, rfl⟩
    · exact .inr ⟨rfl, rfl, rfl, rfl, congrArg BitVec.toNat ((isEmpty_iff_occupancy hh ht).mp empty)⟩
    · exact .inl ⟨rfl, (occupancy_advanceTail s hh ht byte).symm⟩

/-! ## The queries -/

theorem boolByte_eq_one_iff (b : Bool) : boolByte b = 0x01 ↔ b = true := by cases b <;> decide

theorem boolByte_beq (a b : Byte) : boolByte (a == b) = if a = b then 0x01 else 0x00 := by
  simp only [boolByte, beq_iff_eq]

theorem exec_empty (s : State) :
    exec .empty s = .next { s with res := ⟨.ok, if s.head = s.tail then 0x01 else 0x00⟩ } := by
  rw [← boolByte_beq]
  rfl

theorem exec_full (s : State) :
    exec .full s =
      .next { s with res := ⟨.ok, if (s.head + 1) &&& s.params.mask = s.tail then 0x01 else 0x00⟩ } := by
  rw [← boolByte_beq]
  rfl

/-- Settles O18: EMPTY is the predicate as a byte, OCC is the count by definition. -/
theorem emptyAndOccupancyResults : Obligations.EmptyAndOccupancyResults := by
  unfold Obligations.EmptyAndOccupancyResults
  exact fun s => ⟨exec_empty s, rfl⟩

/-- R90: the result of a completed PUSH says whether the buffer was full. -/
theorem execPush_code_full_iff {d : Byte} {s t : State} (h : execPush d s = .next t) :
    t.res.code = .full ↔ isFull s = true := by
  rcases execPush_cases h with ⟨full, rfl⟩ | ⟨room, -, rfl⟩
  · simp [full]
  · simp [room]

/-- Settles O19: FULL and the code of a completed PUSH both answer the full predicate. -/
theorem fullResult : Obligations.FullResult := by
  unfold Obligations.FullResult
  refine fun s => ⟨exec_full s, fun d t u hfull hpush => ?_⟩
  cases hfull
  rw [execPush_code_full_iff hpush]
  exact boolByte_eq_one_iff (isFull s)

/-! ## A full buffer -/

/-- R98: a received byte that finds the buffer full leaves the buffer alone, taken or refused. -/
theorem exec_rxi_of_full (d : Byte) {s : State} (full : isFull s = true) :
    ∃ t, exec (.rxi d) s = .next t ∧ SameBuffer s t := by
  cases hd : deliverable .br s with
  | true => exact ⟨_, (Effect.rxiFull d hd full).exec_eq, by constructor <;> simp⟩
  | false => exact ⟨_, (Effect.rxiRefused d hd).exec_eq, by constructor <;> simp⟩

/-- Settles O21: PUSH and RXI complete on a full buffer and leave it alone, so its queue is the same. -/
theorem fullBufferDiscardsTheNewestByte : Obligations.FullBufferDiscardsTheNewestByte := by
  unfold Obligations.FullBufferDiscardsTheNewestByte
  intro d s full
  refine ⟨⟨_, (Effect.pushFull d full).exec_eq, rfl, rfl, rfl, queue_congr rfl rfl rfl rfl rfl⟩, ?_⟩
  obtain ⟨t, ht, buffer⟩ := exec_rxi_of_full d full
  exact ⟨t, ht, buffer.storage, buffer.head, buffer.tail, buffer.queue_eq⟩

end Sys2Proof.Machine

/-! PROOFS. Family 41_receive_path: when the device may assert a cause (R100), what RXI does with the byte (R101), and
that LSI and REI only acknowledge (R102, R103). -/

namespace Sys2Proof.Machine

/-! ## IRQ -/

/-- R100: `transmit_ready` is the one cause that the armed request gates. -/
theorem mayAssert_tr (s : State) : mayAssert .tr s = s.txIrqArmed := rfl

/-- Settles O23: the three ungated causes are asserted from every state, `transmit_ready` by the armed request. -/
theorem irqResult : Obligations.IrqResult := by
  unfold Obligations.IrqResult
  intro s
  refine ⟨(Effect.irqAsserted .br rfl).exec_eq, (Effect.irqAsserted .ls rfl).exec_eq,
    (Effect.irqAsserted .re rfl).exec_eq, fun armed => ?_, fun disarmed => ?_⟩
  · exact (Effect.irqAsserted .tr ((mayAssert_tr s).trans armed)).exec_eq
  · exact (Effect.irqRefused .tr ((mayAssert_tr s).trans disarmed)).exec_eq

/-! ## The handlers of the receive path -/

theorem deliverable_eq_false {c : Cause} {s : State} (h : ¬ (s.ie = true ∧ s.pend.get c = true)) :
    deliverable c s = false := by
  rwa [← deliverable_iff, Bool.not_eq_true] at h

/-- Settles O24: the three outcomes of RXI, and what the storage reads after the one write. -/
theorem rxiResult : Obligations.RxiResult := by
  unfold Obligations.RxiResult
  intro d s
  refine ⟨fun masked => (Effect.rxiRefused d (deliverable_eq_false masked)).exec_eq,
    fun hie hp full => ?_, fun hie hp room range => ?_⟩
  · have taken := (deliverable_iff .br s).mpr ⟨hie, hp⟩
    exact (Effect.rxiFull d taken (beq_iff_eq.mpr full)).exec_eq
  · have taken := (deliverable_iff .br s).mpr ⟨hie, hp⟩
    exact ⟨_, (Effect.rxiRoom d taken (isFull_eq_false room) range).exec_eq, read_write_same _ _ _,
      fun a ha => read_write_other _ _ _ _ ha, rfl⟩

/-- Settles O25: each of the two handlers is refused, or acknowledges its cause between entry and epilogue. -/
theorem acknowledgeHandlers : Obligations.AcknowledgeHandlers := by
  unfold Obligations.AcknowledgeHandlers
  intro s
  exact ⟨fun hie hp => (Effect.lsiDone ((deliverable_iff .ls s).mpr ⟨hie, hp⟩)).exec_eq,
    fun masked => (Effect.lsiRefused (deliverable_eq_false masked)).exec_eq,
    fun hie hp => (Effect.reiDone ((deliverable_iff .re s).mpr ⟨hie, hp⟩)).exec_eq,
    fun masked => (Effect.reiRefused (deliverable_eq_false masked)).exec_eq⟩

end Sys2Proof.Machine

/-! PROOFS. Family 42_drain_consumer: what TXI and DRAIN transmit (R111, R112), DRAIN as two foreground phases (R112),
the burst that drains the queue (R115), and that the mode reaches neither end of the buffer (R116, R126). -/

namespace Sys2Proof.Machine

/-! ## TXI and DRAIN -/

/-- Settles O26: the three outcomes of TXI; the slot at `tail` answers the byte written there. -/
theorem txiResult : Obligations.TxiResult := by
  unfold Obligations.TxiResult
  intro s
  refine ⟨fun masked => (Effect.txiRefused (deliverable_eq_false masked)).exec_eq,
    fun hie hp empty => ?_, fun b hie hp byte range written => ?_⟩
  · have taken := (deliverable_iff .tr s).mpr ⟨hie, hp⟩
    exact (Effect.txiEmpty taken (beq_iff_eq.mpr empty)).exec_eq
  · have taken := (deliverable_iff .tr s).mpr ⟨hie, hp⟩
    rw [← slotByte_written written]
    exact exec_txi_byte (isEmpty_eq_false byte) range taken

/-- Settles O27: the two outcomes of DRAIN; the slot at `tail` answers the byte written there. -/
theorem drainResult : Obligations.DrainResult := by
  unfold Obligations.DrainResult
  intro s
  refine ⟨fun empty => (Effect.drainEmpty (beq_iff_eq.mpr empty)).exec_eq, fun b byte range written => ?_⟩
  rw [← slotByte_written written]
  exact exec_drain_byte (isEmpty_eq_false byte) range

/-! ## Sequences of operations -/

theorem runInstrs_cons {i : Instr} {s t : State} (h : exec i s = .next t) (is : List Instr) :
    runInstrs (i :: is) s = runInstrs is t := by
  simp only [runInstrs, h]

/-- What phase P_POP leads to on a non-empty buffer (R141). -/
def afterPop (s : State) : State :=
  setRes .ok 3 { enableDelivery (advanceTail s) with popped := some (slotByte s s.tail), fgPhase := .send }

/-- Settles O39: P_POP and DRAIN take the same byte, P_SEND and DRAIN write it; no byte waits in `popped` outside
P_SEND, so sending it leaves `popped` as DRAIN does. -/
theorem drainIsPopThenSend : Obligations.DrainIsPopThenSend := by
  unfold Obligations.DrainIsPopThenSend
  intro s hs phase byte
  have hpop := exec_fgstep_pop_byte byte hs.tailInRange phase
  have hsend := (Effect.phaseSend (s := afterPop s) (slotByte s s.tail) rfl rfl).exec_eq
  have waiting : s.popped = none := by simpa [phase] using hs.poppedIffSend
  refine ⟨_, _, (runInstrs_cons hpop _).trans (runInstrs_cons hsend []), exec_drain_byte byte hs.tailInRange, ?_, rfl⟩
  rw [← phase, ← waiting]
  rfl

/-! ## The transmit burst -/

theorem txOut_of_tx {s t : State} {b : Byte} (h : t.devTrace = s.devTrace ++ [.tx b]) : txOut t = txOut s ++ [b] := by
  simp [txOut, h]

theorem txOut_of_disarm {s t : State} (h : t.devTrace = s.devTrace ++ [.disarm]) : txOut t = txOut s := by
  simp [txOut, h]

theorem isEmpty_of_queue_eq_nil {s : State} (hb : BufferInv s) (hq : queue s = []) : isEmpty s = true := by
  by_contra hne
  rw [queue_advanceTail s hb.headInRange hb.tailInRange (Bool.eq_false_iff.mpr hne)] at hq
  exact List.cons_ne_nil _ _ hq

theorem isEmpty_of_queue_eq_cons {s : State} {b : Byte} {q : List Byte} (hq : queue s = b :: q) : isEmpty s = false := by
  by_contra hne
  rw [queue_empty (Bool.eq_true_of_not_eq_false hne)] at hq
  exact List.cons_ne_nil _ _ hq.symm

/-- A state from which a transmit burst runs (R115): the invariant, delivery on, the request armed. -/
structure BurstReady (s : State) : Prop where
  inv : s.Inv
  delivery : s.ie = true
  armed : s.txIrqArmed = true

/-- `transmit_ready` asserted: what IRQ 1 leads to while the request is armed (R100). -/
def txAsserted (s : State) : State := setRes .ok 0x00 (setPend .tr true s)

theorem BurstReady.exec_irq {s : State} (h : BurstReady s) : exec (.irq .tr) s = .next (txAsserted s) :=
  (Effect.irqAsserted .tr ((mayAssert_tr s).trans h.armed)).exec_eq

theorem BurstReady.deliverable_txAsserted {s : State} (h : BurstReady s) : deliverable .tr (txAsserted s) = true :=
  (deliverable_iff .tr _).mpr ⟨h.delivery, rfl⟩

/-- One TXRDY pair on a byte at the front of the queue transmits it, and the burst can go on. -/
theorem BurstReady.txrdy_byte {s : State} {b : Byte} {q : List Byte} (h : BurstReady s) (hq : queue s = b :: q) :
    ∃ t, (∀ is, runInstrs (pseudoTxrdy ++ is) s = runInstrs is t) ∧ BurstReady t ∧ queue t = q ∧
      txOut t = txOut s ++ [b] := by
  have byte := isEmpty_of_queue_eq_cons hq
  have htxi := exec_txi_byte (s := txAsserted s) byte h.inv.tailInRange h.deliverable_txAsserted
  obtain ⟨front, rest⟩ : slotByte s s.tail = b ∧ queue (advanceTail s) = q :=
    List.cons_eq_cons.mp ((queue_advanceTail s h.inv.headInRange h.inv.tailInRange byte).symm.trans hq)
  refine ⟨_, fun is => (runInstrs_cons h.exec_irq _).trans (runInstrs_cons htxi is),
    ⟨exec_inv (exec_inv h.inv h.exec_irq) htxi, rfl, rfl⟩, ?_, ?_⟩
  · rw [← rest]
    exact SameBuffer.queue_eq (by constructor <;> simp [txAsserted])
  · rw [← front]
    exact txOut_of_tx rfl

/-- One TXRDY pair on an empty queue disarms the request and transmits nothing. -/
theorem BurstReady.txrdy_empty {s : State} (h : BurstReady s) (hq : queue s = []) :
    ∃ u, runInstrs pseudoTxrdy s = .next u ∧ txOut u = txOut s ∧ u.txIrqArmed = false ∧ u.pend.tr = false := by
  have empty := isEmpty_of_queue_eq_nil h.inv.buffer hq
  have htxi := (Effect.txiEmpty (s := txAsserted s) h.deliverable_txAsserted empty).exec_eq
  exact ⟨_, (runInstrs_cons h.exec_irq _).trans (runInstrs_cons htxi []), txOut_of_disarm rfl, rfl, rfl⟩

/-- R115, by induction on the queue: one pair per queued byte transmits them all, in order. -/
theorem BurstReady.burst {s : State} {q : List Byte} (h : BurstReady s) (hq : queue s = q) :
    ∃ t, runInstrs (pseudoBurst q.length) s = .next t ∧ BurstReady t ∧ queue t = [] ∧ txOut t = txOut s ++ q := by
  induction q generalizing s with
  | nil => exact ⟨s, rfl, h, hq, (List.append_nil _).symm⟩
  | cons b q ih =>
    obtain ⟨t, hpair, ready, rest, sent⟩ := h.txrdy_byte hq
    obtain ⟨u, hrun, done, drained, out⟩ := ih ready rest
    refine ⟨u, (hpair (pseudoBurst q.length)).trans hrun, done, drained, ?_⟩
    rw [out, sent, List.append_assoc, List.singleton_append]

/-- Settles O51: the burst transmits the queue, the next pair finds it empty and disarms, and IRQ 1 needs the armed
request. -/
theorem burstDrainsTheWholeQueue : Obligations.BurstDrainsTheWholeQueue := by
  unfold Obligations.BurstDrainsTheWholeQueue
  intro s hs hie harmed
  obtain ⟨t, hrun, ready, drained, sent⟩ := BurstReady.burst ⟨hs, hie, harmed⟩ rfl
  obtain ⟨u, hpair, quiet, disarmed, cleared⟩ := ready.txrdy_empty drained
  exact ⟨t, u, hrun, sent, drained, hpair, quiet, disarmed, cleared,
    (Effect.irqRefused .tr ((mayAssert_tr u).trans disarmed)).exec_eq⟩

/-! ## The mode -/

/-- The operations outside the ModeController, the presenter and the foreground tick neither read nor write the mode. -/
theorem Effect.replaceMode {i : Instr} {s t : State} (e : Effect s i t) (m : Bool) (htoggle : i ≠ .toggle)
    (hpresent : i ≠ .present) (hfgstep : i ≠ .fgstep) :
    Effect { s with autoModeFlag := m } i { t with autoModeFlag := m } := by
  cases e with
  | toggle => exact absurd rfl htoggle
  | present => exact absurd rfl hpresent
  | phaseInput | phaseSnap | phasePopEmpty | phasePopByte | phaseSend | phasePresent => exact absurd rfl hfgstep
  | key k => cases k <;> exact .key _
  | _ => constructor <;> assumption

/-- Settles O53: none of the listed operations is TOGGLE, PRESENT, FGSTEP or RESET, and no other reads the mode. -/
theorem modeDoesNotReachTheBuffer : Obligations.ModeDoesNotReachTheBuffer := by
  unfold Obligations.ModeDoesNotReachTheBuffer
  intro i s t m hi h
  obtain ⟨hreset, htoggle, hpresent, hfgstep⟩ :
      i ≠ .reset ∧ i ≠ .toggle ∧ i ≠ .present ∧ i ≠ .fgstep := by
    refine ⟨?_, ?_, ?_, ?_⟩ <;> (rintro rfl; simp [Instr.agent] at hi)
  exact ((exec_effect h hreset).replaceMode m htoggle hpresent hfgstep).exec_eq

end Sys2Proof.Machine

/-! PROOFS. Family 43_mode_controller: KEY latches (R121), TOGGLE flips the mode alone (R122), CLROVF clears the sticky
flag (R123), and two toggles cancel (R124). -/

namespace Sys2Proof.Machine

/-! ## The three operations -/

/-- Settles O28: the one effect of KEY, for each of the two keys. -/
theorem keyResult : Obligations.KeyResult := by
  unfold Obligations.KeyResult
  exact fun s => ⟨(Effect.key .toggle).exec_eq, (Effect.key .trigger).exec_eq⟩

theorem boolByte_not (b : Bool) : boolByte (!b) = if b = true then 0x00 else 0x01 := by cases b <;> rfl

/-- Settles O29: the effect of TOGGLE; the answered byte is that of the flipped mode. -/
theorem toggleResult : Obligations.ToggleResult := by
  unfold Obligations.ToggleResult
  intro s
  rw [← boolByte_not]
  exact Effect.toggle.exec_eq

/-- Settles O30: the one effect of CLROVF, whose bracket ends with delivery on. -/
theorem clrovfResult : Obligations.ClrovfResult := by
  unfold Obligations.ClrovfResult
  exact fun s => Effect.clrovf.exec_eq

/-! ## Two toggles -/

@[simp] theorem flipMode_flipMode (s : State) : flipMode (flipMode s) = s := by simp [flipMode]

@[simp] theorem flipMode_setRes (c : Code) (d : Byte) (s : State) :
    flipMode (setRes c d s) = setRes c d (flipMode s) := rfl

@[simp] theorem setRes_setRes (c c' : Code) (d d' : Byte) (s : State) :
    setRes c d (setRes c' d' s) = setRes c d s := rfl

/-- R124: after two toggles a program goes on from the same state, with the old mode as the last answer. -/
theorem runInstrs_toggle_toggle (is : List Instr) (s : State) :
    runInstrs (.toggle :: .toggle :: is) s = runInstrs is (setRes .ok (boolByte s.autoModeFlag) s) := by
  rw [runInstrs_cons Effect.toggle.exec_eq, runInstrs_cons Effect.toggle.exec_eq]
  simp

/-- The last answer is nothing PRESENT shows or keeps. -/
theorem exec_present_setRes (c : Code) (d : Byte) (s : State) :
    exec .present (setRes c d s) = exec .present s :=
  Effect.present.exec_eq.trans Effect.present.exec_eq.symm

/-- Settles O32: the two flips cancel, and PRESENT does not see the answer they leave. -/
theorem doubleToggleRestores : Obligations.DoubleToggleRestores := by
  unfold Obligations.DoubleToggleRestores
  intro s
  refine ⟨⟨_, runInstrs_toggle_toggle [] s⟩, ?_⟩
  calc runInstrs [.toggle, .toggle, .present] s
    _ = runInstrs [.present] (setRes .ok (boolByte s.autoModeFlag) s) := runInstrs_toggle_toggle [.present] s
    _ = exec .present (setRes .ok (boolByte s.autoModeFlag) s) :=
      (runInstrs_cons Effect.present.exec_eq []).trans Effect.present.exec_eq.symm
    _ = exec .present s := exec_present_setRes ..

end Sys2Proof.Machine

/-! PROOFS. Family 44_status_presenter: PRESENT writes the snapshot and the result alone (R130), and shows Overflow before
AutoMode before Ok (R131). -/

namespace Sys2Proof.Machine

/-! ## The status code shown -/

@[simp] theorem statusOf_overflow (auto : Bool) : statusOf true auto = .overflow := rfl

@[simp] theorem statusOf_no_overflow (auto : Bool) : statusOf false auto = if auto then .autoMode else .ok := rfl

/-! ## PRESENT -/

/-- R130: what PRESENT writes, by the status code that the two flags select. -/
theorem exec_present_of_statusOf {s : State} {c : StatusCode} (hc : statusOf s.overflowFlag s.autoModeFlag = c) :
    exec .present s = .next { s with
      snap := ⟨occupancy s, c, s.lastReceivedByte⟩, res := ⟨.ok, displayByte s.params.statusEnc c⟩ } := by
  subst hc
  exact Effect.present.exec_eq

/-- Settles O31: the one effect of PRESENT, for each of the three status codes the two flags can select. -/
theorem presentResult : Obligations.PresentResult := by
  unfold Obligations.PresentResult
  intro s
  refine ⟨fun overflow => ?_, fun noOverflow auto => ?_, fun noOverflow manual => ?_⟩
  · exact exec_present_of_statusOf (c := .overflow) (by simp [overflow])
  · exact exec_present_of_statusOf (c := .autoMode) (by simp [noOverflow, auto])
  · exact exec_present_of_statusOf (c := .ok) (by simp [noOverflow, manual])

end Sys2Proof.Machine

/-! PROOFS. Family 45_foreground_and_sync: DI and EI (R135, R136), the five phases of FGSTEP (R139 to R143), and the
tick they make up (R144). -/

namespace Sys2Proof.Machine

/-! ## DI and EI -/

/-- Settles O33: the one effect of DI and the one effect of EI. -/
theorem disableEnableResults : Obligations.DisableEnableResults := by
  unfold Obligations.DisableEnableResults
  exact fun s => ⟨Effect.di.exec_eq, Effect.ei.exec_eq⟩

/-! ## The five phases -/

theorem phaseInput_of_toggle {s : State} (event : s.toggleEvt = true) :
    phaseInput s = { s with toggleEvt := false, autoModeFlag := !s.autoModeFlag, fgPhase := .snap } := by
  rw [phaseInput, if_pos event]
  rfl

theorem phaseInput_of_no_toggle {s : State} (event : s.toggleEvt = false) :
    phaseInput s = { s with fgPhase := .snap } := by
  rw [phaseInput, if_neg (Bool.eq_false_iff.mp event)]

/-- Settles O34: the one effect of phase P_INPUT, with and without a toggle event to consume. -/
theorem inputPhase : Obligations.InputPhase := by
  unfold Obligations.InputPhase
  intro s phase
  have h := (Effect.phaseInput phase).exec_eq
  refine ⟨fun event => ?_, fun event => ?_⟩
  · rwa [phaseInput_of_toggle event] at h
  · rwa [phaseInput_of_no_toggle event] at h

/-- R140: what phase P_SNAP writes for mode `m` and trigger `e`, by the phase it leads to. -/
theorem exec_fgstep_snap {s : State} {m e : Bool} {p : Phase} (phase : s.fgPhase = .snap) (hm : s.autoModeFlag = m)
    (he : s.triggerEvt = e) (hp : (if m || e then .pop else .present) = p) :
    exec .fgstep s = .next { s with
      modeSnap := m, trigSnap := e, triggerEvt := false, fgPhase := p, res := ⟨.ok, p.num⟩ } := by
  subst hm he hp
  exact (Effect.phaseSnap phase).exec_eq

/-- Settles O35: P_SNAP leads to P_POP when the mode or the trigger is set, else to P_PRESENT. -/
theorem snapPhase : Obligations.SnapPhase := by
  unfold Obligations.SnapPhase
  intro s phase
  refine ⟨fun drain => ?_, fun mode trigger => ?_⟩
  · exact exec_fgstep_snap (p := .pop) phase rfl rfl (by simp [drain])
  · exact exec_fgstep_snap (p := .present) phase mode trigger rfl

/-- Settles O36: the two outcomes of phase P_POP; the slot at `tail` answers the byte written there. -/
theorem popPhase : Obligations.PopPhase := by
  unfold Obligations.PopPhase
  intro s phase
  refine ⟨fun empty => (Effect.phasePopEmpty phase (beq_iff_eq.mpr empty)).exec_eq, fun b byte range written => ?_⟩
  rw [← slotByte_written written]
  exact (Effect.phasePopByte phase (isEmpty_eq_false byte) range).exec_eq

/-- Settles O37: the one effect of phase P_SEND with a byte waiting. -/
theorem sendPhase : Obligations.SendPhase := by
  unfold Obligations.SendPhase
  exact fun _ b phase popped => (Effect.phaseSend b phase popped).exec_eq

/-- Settles O38: PRESENT and phase P_PRESENT write the same snapshot. -/
theorem presentPhase : Obligations.PresentPhase := by
  unfold Obligations.PresentPhase
  intro s t phase h
  cases exec_effect h (by simp)
  exact (Effect.phasePresent phase).exec_eq

/-! ## A tick with nothing to do -/

/-- Settles O41: P_INPUT finds no toggle event, P_SNAP finds neither mode nor trigger, and P_PRESENT follows. -/
theorem quietTickTransmitsNothing : Obligations.QuietTickTransmitsNothing := by
  unfold Obligations.QuietTickTransmitsNothing
  intro s phase mode trigger toggle
  have hinput := (inputPhase s phase).2 toggle
  have hsnap := (snapPhase { s with fgPhase := .snap, res := ⟨.ok, 1⟩ } rfl).2 mode trigger
  have hpresent := (Effect.phasePresent (s := { s with
    modeSnap := false, trigSnap := false, triggerEvt := false, fgPhase := .present, res := ⟨.ok, 4⟩ }) rfl).exec_eq
  rw [trigger]
  exact ⟨snapshotOf s, (runInstrs_cons hinput _).trans ((runInstrs_cons hsnap _).trans (runInstrs_cons hpresent []))⟩

/-! ## What a phase does to the bytes on their way out -/

/-- The bytes that FGSTEP transmits in state `s`: the waiting one, in phase P_SEND (R142). -/
def sentByPhase (s : State) : List Byte := if s.fgPhase = .send then s.popped.toList else []

theorem sentByPhase_of_ne_send {s : State} (h : s.fgPhase ≠ .send) : sentByPhase s = [] := if_neg h

theorem sentByPhase_send {s : State} {b : Byte} (phase : s.fgPhase = .send) (hb : s.popped = some b) :
    sentByPhase s = [b] := by
  rw [sentByPhase, if_pos phase, hb, Option.toList_some]

theorem fgstep_effect {s t : State} (h : exec .fgstep s = .next t) : Effect s .fgstep t := exec_effect h (by simp)

theorem Effect.phase_txOut {s t : State} (e : Effect s .fgstep t) : txOut t = txOut s ++ sentByPhase s := by
  cases e with
  | phaseSend b phase popped => rw [sentByPhase_send phase popped, txOut_of_tx rfl]
  | phaseInput phase | phaseSnap phase | phasePopEmpty phase | phasePopByte phase | phasePresent phase =>
    simp [sentByPhase, phase, txOut]

theorem State.Inv.popped_eq_none {s : State} (hs : s.Inv) (h : s.fgPhase ≠ .send) : s.popped = none := by
  simpa [h] using hs.poppedIffSend

/-- What waits in `popped` and what the phase takes from the queue is sent by the phase or waits after it. -/
theorem Effect.phase_popped {s t : State} (e : Effect s .fgstep t) (hs : s.Inv) :
    s.popped.toList ++ releasedBy .fgstep s t = sentByPhase s ++ t.popped.toList := by
  cases e with
  | phaseSend b phase => simp [sentByPhase, releasedBy, phase]
  | phaseInput phase | phaseSnap phase | phasePopEmpty phase | phasePopByte phase | phasePresent phase =>
    have nothing := hs.popped_eq_none (by simp [phase])
    simp [sentByPhase, releasedBy, phase, nothing]

/-- A phase keeps the sequence of bytes sent, waiting and queued: it only moves the borders between the three. -/
theorem Effect.phase_popped_queue {s t : State} (e : Effect s .fgstep t) (hs : s.Inv) :
    s.popped.toList ++ queue s = sentByPhase s ++ (t.popped.toList ++ queue t) := by
  have hqueue : queue s ++ [] = releasedBy .fgstep s t ++ queue t := e.buffer.queue_eq hs.buffer
  rw [← List.append_nil (queue s), hqueue, ← List.append_assoc, e.phase_popped hs, List.append_assoc]

/-! ## The rest of a tick -/

/-- The `n` phases from `s` lead to `t`, the first P_INPUT they meet, and transmit `sent`. -/
inductive TickRest : State → Nat → List Byte → State → Prop
  | last {s t : State} (h : exec .fgstep s = .next t) (ht : t.fgPhase = .input) : TickRest s 1 (sentByPhase s) t
  | more {s u t : State} {n : Nat} {sent : List Byte} (h : exec .fgstep s = .next u) (hu : u.fgPhase ≠ .input)
      (rest : TickRest u n sent t) : TickRest s (n + 1) (sentByPhase s ++ sent) t

section
variable {s t : State} {n : Nat} {sent : List Byte}

theorem TickRest.run (r : TickRest s n sent t) : runInstrs (phases n) s = .next t := by
  induction r with
  | last h => exact runInstrs_cons h []
  | more h _ _ ih => exact (runInstrs_cons h _).trans ih

theorem TickRest.atInput (r : TickRest s n sent t) : t.fgPhase = .input := by
  induction r with
  | last _ ht => exact ht
  | more _ _ _ ih => exact ih

theorem TickRest.not_input_before (r : TickRest s n sent t) {m : Nat} {u : State} (hpos : 0 < m) (hm : m < n)
    (hrun : runInstrs (phases m) s = .next u) : u.fgPhase ≠ .input := by
  induction r generalizing m with
  | last => omega
  | more h hv _ ih =>
    obtain ⟨k, rfl⟩ := Nat.exists_eq_add_one.mpr hpos
    have hrest := (runInstrs_cons h (phases k)).symm.trans hrun
    rcases k.eq_zero_or_pos with rfl | hk
    · cases hrest
      exact hv
    · exact ih hk (Nat.lt_of_succ_lt_succ hm) hrest

theorem TickRest.txOut_eq (r : TickRest s n sent t) : txOut t = txOut s ++ sent := by
  induction r with
  | last h => exact (fgstep_effect h).phase_txOut
  | more h _ _ ih => rw [ih, (fgstep_effect h).phase_txOut, List.append_assoc]

theorem TickRest.inv (r : TickRest s n sent t) (hs : s.Inv) : t.Inv := by
  induction r with
  | last h => exact exec_inv hs h
  | more h _ _ ih => exact ih (exec_inv hs h)

theorem TickRest.popped_queue (r : TickRest s n sent t) (hs : s.Inv) :
    s.popped.toList ++ queue s = sent ++ (t.popped.toList ++ queue t) := by
  induction r with
  | last h => exact (fgstep_effect h).phase_popped_queue hs
  | more h _ _ ih => rw [(fgstep_effect h).phase_popped_queue hs, ih (exec_inv hs h), List.append_assoc]

/-- R144(b) for a whole tick: no byte waits in P_INPUT, so what it sends is what left the front of the queue. -/
theorem TickRest.queue_eq (r : TickRest s n sent t) (hs : s.Inv) (phase : s.fgPhase = .input) :
    queue s = sent ++ queue t := by
  have before := hs.popped_eq_none (by simp [phase])
  have after := (r.inv hs).popped_eq_none (by simp [r.atInput])
  simpa [before, after] using r.popped_queue hs

end

/-! ## How long the rest of a tick is -/

/-- From `s` a tick ends after one of the listed numbers of phases, and sends at most one byte in them. -/
def EndsIn (ns : List Nat) (s : State) : Prop :=
  ∃ n sent t, n ∈ ns ∧ sent.length ≤ 1 ∧ TickRest s n sent t

section
variable {s u : State} {ns : List Nat}

theorem EndsIn.mono {ms : List Nat} (h : EndsIn ns s) (hsub : ns ⊆ ms) : EndsIn ms s := by
  obtain ⟨n, sent, t, hn, hsent, rest⟩ := h
  exact ⟨n, sent, t, hsub hn, hsent, rest⟩

/-- A phase other than P_SEND sends nothing, and the tick takes one phase more than from the next state. -/
theorem EndsIn.before (hexec : exec .fgstep s = .next u) (hs : s.fgPhase ≠ .send) (hu : u.fgPhase ≠ .input)
    (h : EndsIn ns u) : EndsIn (ns.map (· + 1)) s := by
  obtain ⟨n, sent, t, hn, hsent, rest⟩ := h
  have hmore := TickRest.more hexec hu rest
  rw [sentByPhase_of_ne_send hs] at hmore
  exact ⟨n + 1, sent, t, List.mem_map_of_mem hn, hsent, hmore⟩

theorem tickRest_present (phase : s.fgPhase = .present) : ∃ t, TickRest s 1 [] t := by
  have hlast := TickRest.last (Effect.phasePresent phase).exec_eq rfl
  rw [sentByPhase_of_ne_send (by simp [phase])] at hlast
  exact ⟨_, hlast⟩

theorem endsIn_present (phase : s.fgPhase = .present) : EndsIn [1] s := by
  obtain ⟨t, rest⟩ := tickRest_present phase
  exact ⟨1, [], t, by simp, by simp, rest⟩

theorem endsIn_send {b : Byte} (phase : s.fgPhase = .send) (hb : s.popped = some b) : EndsIn [2] s := by
  have h := (Effect.phaseSend b phase hb).exec_eq
  obtain ⟨t, rest⟩ :=
    tickRest_present (s := setRes .ok 4 { transmitByte b s with popped := none, fgPhase := .present }) rfl
  have hmore := TickRest.more h (by simp) rest
  rw [sentByPhase_send phase hb] at hmore
  exact ⟨2, [b], t, by simp, by simp, hmore⟩

theorem endsIn_pop (range : s.tail.toNat < s.params.slots) (phase : s.fgPhase = .pop) : EndsIn [2, 3] s := by
  have quiet : s.fgPhase ≠ .send := by simp [phase]
  cases he : isEmpty s with
  | true =>
    have h := (Effect.phasePopEmpty phase he).exec_eq
    exact (EndsIn.before h quiet (by simp) (endsIn_present rfl)).mono (by simp)
  | false =>
    have h := (Effect.phasePopByte phase he range).exec_eq
    exact (EndsIn.before h quiet (by simp) (endsIn_send rfl rfl)).mono (by simp)

theorem endsIn_snap (range : s.tail.toNat < s.params.slots) (phase : s.fgPhase = .snap) : EndsIn [2, 3, 4] s := by
  have quiet : s.fgPhase ≠ .send := by simp [phase]
  cases drain : s.autoModeFlag || s.triggerEvt with
  | true =>
    have h := exec_fgstep_snap (p := .pop) phase rfl rfl (if_pos drain)
    exact (EndsIn.before h quiet (by simp) (endsIn_pop range rfl)).mono (by simp)
  | false =>
    have h := exec_fgstep_snap (p := .present) phase rfl rfl (by simp [drain])
    exact (EndsIn.before h quiet (by simp) (endsIn_present rfl)).mono (by simp)

theorem endsIn_input (range : s.tail.toNat < s.params.slots) (phase : s.fgPhase = .input) : EndsIn [3, 4, 5] s :=
  EndsIn.before (Effect.phaseInput phase).exec_eq (by simp [phase]) (by simp)
    (endsIn_snap (by simpa using range) (by simp))

/-- R144(e): from any phase the tick ends within five phases. -/
theorem State.Inv.endsIn (hs : s.Inv) : EndsIn [1, 2, 3, 4, 5] s := by
  cases phase : s.fgPhase with
  | input => exact (endsIn_input hs.tailInRange phase).mono (by simp)
  | snap => exact (endsIn_snap hs.tailInRange phase).mono (by simp)
  | pop => exact (endsIn_pop hs.tailInRange phase).mono (by simp)
  | send =>
    obtain ⟨b, hb⟩ := Option.isSome_iff_exists.mp (hs.poppedIffSend.mpr phase)
    exact (endsIn_send phase hb).mono (by simp)
  | present => exact (endsIn_present phase).mono (by simp)

end

/-- Settles O40: the rest of a tick from P_INPUT and from any phase, and what its phases send. -/
theorem tickTerminates : Obligations.TickTerminates := by
  unfold Obligations.TickTerminates
  refine ⟨fun s hs phase => ?_, fun s hs => ?_⟩
  · obtain ⟨n, sent, t, hn, hsent, rest⟩ := endsIn_input hs.tailInRange phase
    exact ⟨n, t, hn, rest.run, rest.atInput, fun _ _ hpos hm hrun => rest.not_input_before hpos hm hrun,
      sent, rest.txOut_eq, rest.queue_eq hs phase, hsent⟩
  · obtain ⟨n, sent, t, hn, -, rest⟩ := hs.endsIn
    have hbound : 0 < n ∧ n ≤ 5 := by
      simp only [List.mem_cons, List.not_mem_nil, or_false] at hn
      omega
    exact ⟨n, t, hbound.1, hbound.2, rest.run, rest.atInput⟩

end Sys2Proof.Machine

/-! PROOFS. Family 60_exceptions: nothing halts (R154), every operation ends in the foreground and a handler leaves `ie`
as it found it (R160, R162, R163), and no interrupt storm (R173). -/

namespace Sys2Proof.Machine

/-! ## Level and delivery -/

/-- R31, R145: RESET puts the level back to FG, and every other operation ends where it began. -/
theorem exec_levelForeground {i : Instr} {s t : State} (h : exec i s = .next t) (hs : s.level = .fg) :
    t.level = .fg := by
  by_cases hi : i = .reset
  · subst hi
    cases h
    rfl
  · exact (exec_effect h hi).levelForeground hs

/-- R163: of the operations that write `ie` with net effect, none is a handler. -/
theorem Effect.ie_of_handler {i : Instr} {s t : State} (e : Effect s i t) (hi : i.agent = .int) : t.ie = s.ie := by
  rcases e.ie_cases with hsame | ⟨rfl, -⟩ | ⟨-, rfl | rfl | rfl | ⟨rfl, -⟩⟩
  · exact hsame
  all_goals cases hi

/-- Settles O49, from the level each operation ends at and the writers of `ie`; RESET is no handler. -/
theorem handlersReturnWithDeliveryOn : Obligations.HandlersReturnWithDeliveryOn := by
  unfold Obligations.HandlersReturnWithDeliveryOn
  refine ⟨fun i s t h hs => exec_levelForeground h hs, fun i s t h hi => ?_⟩
  have hreset : i ≠ .reset := by
    rintro rfl
    cases hi
  exact (exec_effect h hreset).ie_of_handler hi

/-! ## Nothing halts -/

/-- Settles O59: every operation completes under the invariant, and so does the step that performs the next command. -/
theorem noStopUnderInvariant : Obligations.NoStopUnderInvariant := by
  unfold Obligations.NoStopUnderInvariant
  exact fun _ hs => ⟨fun i => exec_completes i hs, step_completes hs⟩

/-! ## No interrupt storm -/

/-- R113, R114: both device calls of TXI clear the cause; the byte's call arms the request, the other disarms it. -/
theorem Effect.txi_taken {s t : State} (e : Effect s .txi t) (taken : deliverable .tr s = true) :
    t.pend.tr = false ∧ t.txIrqArmed = !isEmpty s := by
  cases e with
  | txiRefused masked => simp [taken] at masked
  | txiEmpty _ empty => simp [empty]
  | txiByte _ byte => simp [byte]

/-- R104: RXI receives its byte, and so clears its cause, whether or not the buffer has room. -/
theorem Effect.rxi_taken {d : Byte} {s t : State} (e : Effect s (.rxi d) t) (taken : deliverable .br s = true) :
    t.pend.br = false := by
  cases e with
  | rxiRefused _ masked => simp [taken] at masked
  | rxiFull | rxiRoom => simp

/-- Settles O50, from what a taken TXI and a taken RXI leave of their cause and of the request. -/
theorem noInterruptStorm : Obligations.NoInterruptStorm := by
  unfold Obligations.NoInterruptStorm
  intro s t hie
  refine ⟨fun hp h => ?_, fun d hp h => ?_⟩
  · have taken := (deliverable_iff .tr s).mpr ⟨hie, hp⟩
    obtain ⟨cleared, armed⟩ := (exec_effect h (by simp)).txi_taken taken
    exact ⟨cleared, by simp [armed]⟩
  · have taken := (deliverable_iff .br s).mpr ⟨hie, hp⟩
    exact (exec_effect h (by simp)).rxi_taken taken

end Sys2Proof.Machine

/-! PROOFS. Family 70_reset_and_hazards: TXI between P_POP and P_SEND transmits a later byte first (R197). -/

namespace Sys2Proof.Machine

/-! ## Runs, room and the queue -/

theorem runInstrs_append {is : List Instr} {s t : State} (h : runInstrs is s = .next t) (js : List Instr) :
    runInstrs (is ++ js) s = runInstrs js t := by
  induction is generalizing s with
  | nil =>
    cases h
    rfl
  | cons i is ih =>
    cases hi : exec i s with
    | next u =>
      rw [runInstrs_cons hi] at h
      exact (runInstrs_cons hi _).trans (ih h)
    | fault _ | refused _ => simp [runInstrs, hi] at h

theorem BufferInv.isFull_eq_false {s : State} (hb : BufferInv s) (room : (queue s).length + 1 < s.params.slots) :
    isFull s = false := by
  rw [queue_length] at room
  rw [← Bool.not_eq_true, isFull_iff_occupancy hb.headInRange hb.tailInRange]
  omega

section
variable {i : Instr} {s t : State} (e : Effect s i t) (hb : BufferInv s)
include e hb

/-- R62: an operation that takes a byte takes the front of the queue. -/
theorem Effect.takes {b x : Byte} {q : List Byte} (accepted : acceptedBy i t = []) (released : releasedBy i s t = [x])
    (hq : queue s = b :: q) : x = b ∧ queue t = q := by
  have fifo := e.buffer.queue_eq hb
  rw [accepted, released, hq, List.append_nil, List.singleton_append, List.cons_eq_cons] at fifo
  exact ⟨fifo.1.symm, fifo.2.symm⟩

theorem Effect.puts {d : Byte} (accepted : acceptedBy i t = [d]) (released : releasedBy i s t = []) :
    queue t = queue s ++ [d] := by
  rw [← accepted, e.buffer.queue_eq hb, released, List.nil_append]

theorem Effect.keepsQueue (accepted : acceptedBy i t = []) (released : releasedBy i s t = []) : queue t = queue s := by
  rw [← List.append_nil (queue s), ← accepted, e.buffer.queue_eq hb, released, List.nil_append]

end

/-! ## A foreground that is to drain on its next tick -/

/-- Delivery is on, and a tick that begins here takes a byte: automatic mode, no toggle event to end it (R139, R140). -/
structure DrainsOnTick (s : State) : Prop where
  buffer : BufferInv s
  delivery : s.ie = true
  mode : s.autoModeFlag = true
  noToggle : s.toggleEvt = false
  phase : s.fgPhase = .input

section
variable {s : State} (h : DrainsOnTick s)
include h

theorem DrainsOnTick.kept {i : Instr} {t : State} (e : Effect s i t) (hmode : i ≠ .toggle) (hkey : i ≠ .key .toggle)
    (htick : i ≠ .fgstep) (delivery : t.ie = true) : DrainsOnTick t where
  buffer := e.buffer.bufferInv h.buffer
  delivery := delivery
  mode := (e.autoModeFlag hmode fun hf => htick hf.1).trans h.mode
  noToggle := (e.toggleEvt hkey fun hf => htick hf.1).trans h.noToggle
  phase := (e.foregroundContext htick).1.trans h.phase

/-- RX on a buffer with room: the byte joins the queue, the parameters stay, nothing is transmitted. -/
theorem DrainsOnTick.receive (d : Byte) (room : (queue s).length + 1 < s.params.slots) :
    ∃ t, runInstrs (pseudoRx d) s = .next t ∧ DrainsOnTick t ∧ queue t = queue s ++ [d] ∧ txOut t = txOut s ∧
      t.params = s.params := by
  have hirq := Effect.irqAsserted (s := s) .br rfl
  have asserted := h.kept hirq (by simp) (by simp) (by simp) (by simp [h.delivery])
  have taken := (deliverable_iff .br _).mpr ⟨asserted.delivery, rfl⟩
  have hrxi := Effect.rxiRoom d taken (h.buffer.isFull_eq_false room) asserted.buffer.headInRange
  refine ⟨_, (runInstrs_cons hirq.exec_eq _).trans (runInstrs_cons hrxi.exec_eq []),
    asserted.kept hrxi (by simp) (by simp) (by simp) rfl, ?_, by simp [txOut], by simp⟩
  rw [hrxi.puts asserted.buffer rfl rfl, hirq.keepsQueue h.buffer rfl rfl]

/-- DRAIN transmits the front byte and arms the request (R112, R113). -/
theorem DrainsOnTick.drain {a : Byte} {q : List Byte} (hq : queue s = a :: q) :
    ∃ t, exec .drain s = .next t ∧ DrainsOnTick t ∧ t.txIrqArmed = true ∧ queue t = q ∧ txOut t = txOut s ++ [a] := by
  have hdrain := Effect.drainByte (isEmpty_of_queue_eq_cons hq) h.buffer.tailInRange
  obtain ⟨front, rest⟩ := hdrain.takes h.buffer rfl rfl hq
  exact ⟨_, hdrain.exec_eq, h.kept hdrain (by simp) (by simp) (by simp) rfl, rfl, rest, front ▸ txOut_of_tx rfl⟩

end

/-! ## Between P_POP and P_SEND -/

/-- The foreground holds `b`, popped and not yet sent, with delivery on and the request armed: R197's premise. -/
structure HoldsByte (b : Byte) (s : State) : Prop where
  buffer : BufferInv s
  delivery : s.ie = true
  armed : s.txIrqArmed = true
  phase : s.fgPhase = .send
  popped : s.popped = some b

theorem sameBuffer_afterSnap (s : State) : SameBuffer s (afterSnap s) := by constructor <;> simp [afterSnap]

/-- P_INPUT, P_SNAP and P_POP of a tick take the front byte and transmit nothing yet. -/
theorem DrainsOnTick.takesByte {s : State} {b : Byte} {q : List Byte} (h : DrainsOnTick s)
    (armed : s.txIrqArmed = true) (hq : queue s = b :: q) :
    ∃ t, runInstrs (phases 3) s = .next t ∧ HoldsByte b t ∧ queue t = q ∧ txOut t = txOut s := by
  have atPop : (afterSnap s).fgPhase = .pop := by simp [afterSnap_fgPhase, wantsDrain, h.mode, h.noToggle]
  have buffer := (sameBuffer_afterSnap s).bufferInv h.buffer
  have hq' := (sameBuffer_afterSnap s).queue_eq.trans hq
  have hinput := (Effect.phaseInput h.phase).exec_eq
  have hsnap := (Effect.phaseSnap (s := setRes .ok 1 (phaseInput s)) (by simp)).exec_eq
  have hpop := Effect.phasePopByte atPop (isEmpty_of_queue_eq_cons hq') buffer.tailInRange
  obtain ⟨front, rest⟩ := hpop.takes (x := slotByte (afterSnap s) (afterSnap s).tail) buffer rfl (if_pos atPop) hq'
  refine ⟨_, (runInstrs_cons hinput _).trans ((runInstrs_cons hsnap _).trans (runInstrs_cons hpop.exec_eq [])),
    ⟨hpop.buffer.bufferInv buffer, rfl, ?_, rfl, congrArg some front⟩, rest, ?_⟩
  · simp [afterSnap, armed]
  · simp [txOut, afterSnap]

section
variable {s : State} {b : Byte} (h : HoldsByte b s)
include h

theorem HoldsByte.kept {i : Instr} {t : State} (e : Effect s i t) (htick : i ≠ .fgstep) (delivery : t.ie = true)
    (armed : t.txIrqArmed = true) : HoldsByte b t :=
  have ⟨phase, _, _, popped⟩ := e.foregroundContext htick
  ⟨e.buffer.bufferInv h.buffer, delivery, armed, phase.trans h.phase, popped.trans h.popped⟩

/-- TXI does not look at what the foreground holds: it transmits the front of the queue (R111). -/
theorem HoldsByte.txrdy {c : Byte} {q : List Byte} (hq : queue s = c :: q) :
    ∃ t, runInstrs pseudoTxrdy s = .next t ∧ HoldsByte b t ∧ queue t = q ∧ txOut t = txOut s ++ [c] := by
  have hirq := Effect.irqAsserted .tr ((mayAssert_tr s).trans h.armed)
  have asserted := h.kept hirq (by simp) (by simp [h.delivery]) (by simp [h.armed])
  have hq' := (hirq.keepsQueue h.buffer rfl rfl).trans hq
  have taken := (deliverable_iff .tr _).mpr ⟨asserted.delivery, rfl⟩
  have htxi := Effect.txiByte taken (isEmpty_of_queue_eq_cons hq') asserted.buffer.tailInRange
  obtain ⟨front, rest⟩ := htxi.takes asserted.buffer rfl rfl hq'
  exact ⟨_, (runInstrs_cons hirq.exec_eq _).trans (runInstrs_cons htxi.exec_eq []),
    asserted.kept htxi (by simp) rfl rfl, rest, front ▸ txOut_of_tx rfl⟩

/-- P_SEND and P_PRESENT transmit the byte held and leave the queue alone. -/
theorem HoldsByte.send :
    ∃ t, runInstrs (phases 2) s = .next t ∧ queue t = queue s ∧ txOut t = txOut s ++ [b] := by
  have hsend := Effect.phaseSend b h.phase h.popped
  have hpresent := Effect.phasePresent
    (s := setRes .ok 4 { transmitByte b s with popped := none, fgPhase := .present }) rfl
  exact ⟨_, (runInstrs_cons hsend.exec_eq _).trans (runInstrs_cons hpresent.exec_eq []),
    (hpresent.keepsQueue (hsend.buffer.bufferInv h.buffer) rfl rfl).trans
      (hsend.keepsQueue h.buffer rfl (by simp [releasedBy, h.phase])), txOut_of_tx rfl⟩

/-- R197: TXI transmits the front byte `c` before P_SEND transmits `b`, which left the queue earlier. -/
theorem HoldsByte.inverts {c : Byte} {q : List Byte} (hq : queue s = c :: q) :
    ∃ t, runInstrs (pseudoTxrdy ++ phases 2) s = .next t ∧ txOut t = txOut s ++ [c, b] ∧ queue t = q := by
  obtain ⟨u, hpair, holds, rest, out⟩ := h.txrdy hq
  obtain ⟨t, hrun, kept, sent⟩ := holds.send
  refine ⟨t, (runInstrs_append hpair _).trans hrun, ?_, kept.trans rest⟩
  rw [sent, out, List.append_assoc, List.singleton_append]

end

/-! ## Program P6 -/

/-- From reset at START = 0, EI and TOGGLE lead to a foreground that drains on its next tick. -/
theorem drainsOnTick_of_reset {p : Params} (r : Nat) (hstart : p.start = 0) :
    ∃ t, runInstrs [.ei, .toggle] (State.resetWith p r) = .next t ∧ DrainsOnTick t ∧ queue t = [] ∧ txOut t = [] ∧
      t.params = p := by
  have range : p.start.toNat < p.slots := hstart ▸ Nat.zero_lt_of_lt p.two_le_slots
  exact ⟨_, rfl, ⟨bufferInv_of_unwritten rfl rfl range, rfl, rfl, rfl, rfl⟩,
    queue_empty (beq_self_eq_true p.start), rfl, rfl⟩

/-- Settles O52: three bytes fit in four slots; DRAIN transmits the first and arms the request; the tick takes the
second, and TXI overtakes it with the third. -/
theorem transmitOrderCanInvert : Obligations.TransmitOrderCanInvert := by
  unfold Obligations.TransmitOrderCanInvert
  intro p a b c hslots hstart
  have four : p.slots = 4 := by simp [Params.slots, hslots]
  obtain ⟨s₀, run₀, ready₀, queue₀, out₀, params₀⟩ := drainsOnTick_of_reset 0 hstart
  obtain ⟨s₁, run₁, ready₁, queue₁, out₁, params₁⟩ := ready₀.receive a (by simp [queue₀, params₀, four])
  rw [queue₀] at queue₁
  obtain ⟨s₂, run₂, ready₂, queue₂, out₂, params₂⟩ := ready₁.receive b (by simp [queue₁, params₁, params₀, four])
  rw [queue₁] at queue₂
  obtain ⟨s₃, run₃, ready₃, queue₃, out₃, -⟩ := ready₂.receive c (by simp [queue₂, params₂, params₁, params₀, four])
  rw [queue₂] at queue₃
  obtain ⟨s₄, run₄, ready₄, armed, queue₄, out₄⟩ := ready₃.drain queue₃
  obtain ⟨s₅, run₅, holds, queue₅, out₅⟩ := ready₄.takesByte armed queue₄
  obtain ⟨t, run, out, empty⟩ := holds.inverts queue₅
  have received :=
    (runInstrs_append ((runInstrs_append ((runInstrs_append run₀ _).trans run₁) _).trans run₂) _).trans run₃
  refine ⟨t, (runInstrs_append received _).trans
    ((runInstrs_cons run₄ _).trans ((runInstrs_append run₅ _).trans run)), ?_, empty⟩
  rw [out, out₅, out₄, out₃, out₂, out₁, out₀]
  rfl

end Sys2Proof.Machine
